-- ==== Sys2Proof/Word.lean ====
section
/-! DEFINITION. The word types of the XC320 engine (spec 00_scope.md R8): 64-bit words, bytes, the
32-bit values of the host window, and the type of a shift or rotation count. -/

namespace Sys2Proof

/-- A word: an unsigned integer in 0 .. 2^64 - 1, bit 0 the least significant (R8). Its `+` and `*`
are `BitVec`'s, which wrap modulo 2^64 (R100, R101); `^^^`, `&&&`, `|||`, `~~~` are bitwise (R102). -/
abbrev Word := BitVec 64

/-- A byte: an unsigned integer in 0 .. 255 (R8). -/
abbrev Byte := BitVec 8

/-- A command word or the value of a host register: 32 bits (R30, R70). -/
abbrev Word32 := BitVec 32

/-- A shift or rotation count. R103 to R105 define counts 0 .. 63 and give 64 and above no meaning,
so the type has 64 values (93_implementation_defined.md U2). -/
abbrev Count := Fin 64

/-- The hash state: five words, H[0] to H[4] (R21). Also the shape of a salt (R150) and of a BIG-box
sub-state (R26). -/
abbrev Words5 := Vector Word 5

/-- A parsed block: sixteen words (R52, R140). -/
abbrev Block := Vector Word 16

/-- A LITTLE lane: ten words (R25, R165). -/
abbrev Lane := Vector Word 10

end Sys2Proof
end

