-- ==== Sys2Proof/Syntax.lean ====
section
/-! DEFINITION. Syntax of commands (spec 30_encoding.md): the one format `C` and the five commands,
one constructor per row of spec/opcode_table.json. -/

namespace Sys2Proof

/-- Format `C` (R71): the three fields of a command word. -/
structure Fields where
  /-- bits 31:16, reserved, must be 0 -/
  rsv : BitVec 16
  /-- bits 15:8, the message byte of `UPDATE`, 0 for every other command -/
  data : Byte
  /-- bits 7:0, the operation code -/
  op : BitVec 8
deriving DecidableEq, Repr

/-- The five commands (R72). The only operand is the byte of `UPDATE` (R73). -/
inductive Instr where
  /-- `INIT` (R220): start a hash. -/
  | init
  /-- `UPDATE byte` (R223): absorb one message byte. -/
  | update (byte : Byte)
  /-- `FINAL` (R224): finish the hash. -/
  | final
  /-- `RESET` (R222): start a hash on the same storage. -/
  | reset
  /-- `WIPE` (R225): overwrite the context with zeros. -/
  | wipe
deriving DecidableEq, Repr

end Sys2Proof
end

