-- ==== Sys2Proof/WellFormed.lean ====
section
/-! DEFINITION. Which command words are legal (spec 30_encoding.md R74), as checks on the fields of
format `C`, and well-formedness of a command term. -/

namespace Sys2Proof

/-- R74 (a) does not hold: the reserved field is 0. -/
def Fields.rsvZero (f : Fields) : Bool := f.rsv == 0

/-- R74 (b) does not hold: the operation code is one of 0x01 to 0x05. -/
def Fields.opKnown (f : Fields) : Bool :=
  f.op == 0x01 || f.op == 0x02 || f.op == 0x03 || f.op == 0x04 || f.op == 0x05

/-- R74 (c) does not hold: only `UPDATE` (0x02) carries a nonzero data byte. -/
def Fields.dataAllowed (f : Fields) : Bool := f.op == 0x02 || f.data == 0

/-- The fields are those of a legal command word: none of R74 (a), (b), (c) holds. -/
def Fields.wellFormed (f : Fields) : Bool := f.rsvZero && f.opKnown && f.dataAllowed

/-- Every command term is well formed: the one operand is a byte, any of 0x00 .. 0xFF (R73, R223),
and its type already says so. -/
def Instr.wellFormed : Instr → Bool
  | .init => true
  | .update _ => true
  | .final => true
  | .reset => true
  | .wipe => true

end Sys2Proof
end

