-- ==== Sys2Proof/Decode.lean ====
section
/-! DEFINITION. The decoder, total on every 32-bit word and rejecting by name (spec 30_encoding.md
R71 to R74, R78), and the encoder, written from the same table. -/

namespace Sys2Proof

/-- Why a command word is illegal: the clauses of R74, checked in the order (a), (b), (c). -/
inductive DecodeError where
  /-- R74 (a): `w[31:16] != 0`. -/
  | reservedBits
  /-- R74 (b): `w[7:0]` is not one of 0x01 .. 0x05. -/
  | unknownOp
  /-- R74 (c): a command without operand has `w[15:8] != 0`. -/
  | dataNotZero
deriving DecidableEq, Repr

/-- The fields of a command word, at the bit positions of R71. -/
def fieldsOf (w : Word32) : Fields :=
  { rsv := w.extractLsb' 16 16
    data := w.extractLsb' 8 8
    op := w.extractLsb' 0 8 }

/-- The command word of three fields (R71). -/
def wordOf (f : Fields) : Word32 := f.rsv ++ f.data ++ f.op

/-- Decoding of fields, by the rows of R72. -/
def decodeFields (f : Fields) : Except DecodeError Instr :=
  if !f.rsvZero then .error .reservedBits
  else if !f.opKnown then .error .unknownOp
  else if !f.dataAllowed then .error .dataNotZero
  else if f.op == 0x01 then .ok .init
  else if f.op == 0x02 then .ok (.update f.data)
  else if f.op == 0x03 then .ok .final
  else if f.op == 0x04 then .ok .reset
  else .ok .wipe

/-- The decoder: a command, or the name of the clause of R74 that makes the word illegal. -/
def decode (w : Word32) : Except DecodeError Instr := decodeFields (fieldsOf w)

/-- The fields of a command (R72, R73). -/
def encodeFields : Instr → Fields
  | .init => { rsv := 0, data := 0, op := 0x01 }
  | .update byte => { rsv := 0, data := byte, op := 0x02 }
  | .final => { rsv := 0, data := 0, op := 0x03 }
  | .reset => { rsv := 0, data := 0, op := 0x04 }
  | .wipe => { rsv := 0, data := 0, op := 0x05 }

/-- The encoder: the one 32-bit word of a command (R70, R72, R76). -/
def encode (i : Instr) : Word32 := wordOf (encodeFields i)

/-- The 32-bit command word whose low `nbits` bits are those of `w`, all higher bits 0. A command is
one 32-bit word (R70), so bits of `w` from 32 up do not exist in it. -/
def tableWord (nbits w : Nat) : Word32 := BitVec.ofNat 32 (w % 2 ^ nbits)

/-- What the decoder reads from a word of spec/opcode_table.json, bits numbered as the table numbers
them. -/
def decodeTableWord (nbits w : Nat) : Option Instr := (decode (tableWord nbits w)).toOption

end Sys2Proof
end

