-- ==== Sys2Proof/Config.lean ====
section
/-! DEFINITION. The configuration record `cfg`: the parameters the source leaves open (spec
00_scope.md R6, R7). Their values are constants with NO body, so no proof can rest on a value
(92_eei_decisions.md D1, D9, D10, D11: OPEN; log entries 1 to 4). -/

namespace Sys2Proof

/-- The record of open parameters (R6, R7). The engine's computations take it as an argument, so
that they can also be run on the test configurations of 95_test_vectors.md section 2. -/
structure Cfg where
  /-- `cfg.RC`: the 128 round constants (R109). -/
  RC : Vector Word 128
  /-- `cfg.SEED`: the 32 salt seeds (R110, R150). -/
  SEED : Vector Word 32
  /-- `cfg.SALT_COUNTER_INIT`: first value of the salt generator's counter (R153). -/
  SALT_COUNTER_INIT : Word
  /-- `cfg.BASE`: byte address of the host window; the platform's choice, read by no rule (R7, R57). -/
  BASE : Nat
deriving DecidableEq, Repr

/-- The engine's round constants: fixed by the reference, not in the source (91 N1). Log entry 1. -/
opaque Config.RC : Vector Word 128

/-- The engine's salt seeds: fixed by the reference, not in the source (91 N2). Log entry 2. -/
opaque Config.SEED : Vector Word 32

/-- The first value of the salt counter: not in the source (91 N3). Log entry 3. -/
opaque Config.SALT_COUNTER_INIT : Word

/-- The base address of the window: the platform chooses it (92 D1). Log entry 4. -/
opaque Config.BASE : Nat

/-- The configuration of this engine, fixed when it is built (R263). -/
def Config.cfg : Cfg :=
  { RC := Config.RC
    SEED := Config.SEED
    SALT_COUNTER_INIT := Config.SALT_COUNTER_INIT
    BASE := Config.BASE }

end Sys2Proof
end

