-- ==== Sys2Proof/Machine/Primitives.lean ====
section
/-! DEFINITION. Components C1 and C2: the word primitives (spec 40_word_primitives.md) and the
non-linear primitives (spec 41_nonlinear_primitives.md). None reads or writes state, sets a flag or
raises an error. Wrapping `+` and `*` (R100, R101) and the bitwise operators (R102) are `BitVec`'s. -/

namespace Sys2Proof.Machine

/-- `a >> n` (R103): logical, zeros enter at the top. -/
def shr (a : Word) (n : Count) : Word := a >>> n.val

/-- `a << n` (R103): bits shifted past bit 63 are lost. -/
def shl (a : Word) (n : Count) : Word := a <<< n.val

/-- `rotl(x, n)` (R104); rotation by 0 is the identity and no shift by 64 is formed (D39). -/
def rotl (x : Word) (n : Count) : Word :=
  if n = 0 then x else (x <<< n.val) ||| (x >>> (64 - n.val))

/-- `rotr(x, n)` (R105). -/
def rotr (x : Word) (n : Count) : Word :=
  if n = 0 then x else (x >>> n.val) ||| (x <<< (64 - n.val))

/-- A count computed from natural numbers and reduced `mod 64` (R152, R221, R206, R207). -/
def count (n : Nat) : Count := Fin.ofNat 64 n

/-- `bytes_to_u64(b)` (R107): little-endian, b[0] the least significant byte. -/
def bytesToU64 (b : Fin 8 → Byte) : Word :=
  b 7 ++ b 6 ++ b 5 ++ b 4 ++ b 3 ++ b 2 ++ b 1 ++ b 0

/-- `u64_to_bytes(w)` (R108): `b[k] = (w >> (8k)) & 0xFF`. -/
def u64ToBytes (w : Word) (k : Fin 8) : Byte := (w >>> (8 * k.val)).setWidth 8

/-- `RC(i) = cfg.RC[i mod 128]` for a natural number i (R109). -/
def rc (cfg : Cfg) (i : Nat) : Word := cfg.RC[i % 128]

/-- `SEED[j]`, j in 0..31 (R110). -/
def seed (cfg : Cfg) (j : Fin 32) : Word := cfg.SEED[j]

/-- A 4-lane vector: an ordered quadruple of words (R12). -/
structure Vec4 where
  v0 : Word
  v1 : Word
  v2 : Word
  v3 : Word
deriving DecidableEq, Repr

/-- Element d of a vector. -/
def Vec4.get (V : Vec4) : Fin 4 → Word
  | 0 => V.v0
  | 1 => V.v1
  | 2 => V.v2
  | 3 => V.v3

/-- The vector with element d equal to `f d`. -/
def Vec4.ofFn (f : Fin 4 → Word) : Vec4 := ⟨f 0, f 1, f 2, f 3⟩

/-- A word operation applied lane by lane (R12). -/
def Vec4.map (f : Word → Word) (V : Vec4) : Vec4 := Vec4.ofFn fun d => f (V.get d)

/-- A binary word operation applied lane by lane (R12). -/
def Vec4.zip (f : Word → Word → Word) (V U : Vec4) : Vec4 := Vec4.ofFn fun d => f (V.get d) (U.get d)

/-- The vector of four zero words. -/
def Vec4.zero : Vec4 := ⟨0, 0, 0, 0⟩

/-- `permute(V, pat)` (R111): destination d takes source `(pat >> (2d)) & 3`. The convention is
normative, XZ's glosses of 0x4E and 0xB1 are not (90_conflicts.md C2, D16). -/
def permute (V : Vec4) (pat : Byte) : Vec4 :=
  Vec4.ofFn fun d => V.get (Fin.ofNat 4 (pat >>> (2 * d.val)).toNat)

/-- The broadcast of a word (R112). -/
def broadcast (s : Word) : Vec4 := ⟨s, s, s, s⟩

/-- `K1` of `gamma_mix` (R120). -/
def gammaK1 : Word := 0x8000000080008009

/-- `K2` of `gamma_mix` (R120). -/
def gammaK2 : Word := 0x8000000000008081

/-- `gamma_mix(x, y, z, k)` (R120), its seven lines in order. -/
def gammaMix (x y z k : Word) : Word :=
  let r := x ^^^ y ^^^ z
  let r := r + (rotl x 13 ^^^ rotr y 7 ^^^ rotl z 29)
  let r := r ^^^ ((x &&& y) ||| (z &&& ~~~x))
  let r := r + k
  let r := rotr r 17 ^^^ rotl r 23
  let r := r ^^^ rotl r 19
  r + ((x * gammaK1) ^^^ (y * gammaK2))

/-- The four variants of `sigma_transform`; no other is given a meaning (R121, U3). -/
inductive SigmaVariant where
  | v0
  | v1
  | v2
  | v3
deriving DecidableEq, Repr

/-- `sigma_transform(x, v)` (R121). It has no caller in the engine: XZ uses it only inside P1..P10,
which the engine does not implement (R122). -/
def sigmaTransform (x : Word) : SigmaVariant → Word
  | .v0 => rotr x 28 ^^^ rotr x 34 ^^^ rotr x 39
  | .v1 => rotr x 14 ^^^ rotr x 18 ^^^ rotr x 41
  | .v2 => rotr x 1 ^^^ rotr x 8 ^^^ shr x 7
  | .v3 => rotr x 19 ^^^ rotr x 61 ^^^ shr x 6

end Sys2Proof.Machine
end

