-- ==== Sys2Proof/Machine/State.lean ====
section
/-! DEFINITION. The state of the machine (spec 10_state.md), the reasons a step can stop, and the
state after hardware reset (R36, R260). Plain data throughout. -/

namespace Sys2Proof.Machine

/-- The byte memory of the engine: the carry buffer `BUF` (R22, R51), as the list of the bytes that
differ from the reset value 0, addresses strictly rising (log entry 9). -/
abbrev Memory := List Host.Cell

/-- What an unlisted address reads as: 0, the reset value of every byte of `BUF` (R36). -/
def Memory.unlisted : Byte := 0

/-- A move of the host (R14, R262, R267; 95_test_vectors.md P7). `off` is a byte offset from
`cfg.BASE` and `n` the width of the access in bytes (R9, R54). -/
inductive HostAction where
  /-- `MemWrite(off, n, value)`. -/
  | write (off n : Nat) (value : Word32)
  /-- `MemRead(off, n)`. -/
  | read (off n : Nat)
  /-- The hardware reset input is asserted and released (R260, R262). -/
  | hardwareReset
deriving DecidableEq, Repr

/-- The two synchronous errors of the engine (R240). They are no faults of the model: raising one is
a next state with the sticky flag set (`State.raise` in Ops.lean). -/
inductive EngineError where
  /-- `ERR_ILL` (R241): the word written to `CMD` is illegal. -/
  | illegal
  /-- `ERR_SEQ` (R242): `UPDATE` or `FINAL` while `ACTIVE = 0`. -/
  | sequence
deriving DecidableEq, Repr

/-- The reasons a step ends in a fault: none. "no run-time error is possible once a context exists"
(R15), and the engine makes the rest total too (R228); nobody raises a fault, which is safe. -/
inductive Fault where
deriving DecidableEq, Repr

/-- The reasons a step is refused. -/
inductive Refusal where
  /-- Raised by an arm of `exec` for a command without a meaning. No arm does. Safe: the run stops. -/
  | notModelled (mnemonic : String)
  /-- Raised by a host access inside the window that is not a 32-bit access at a multiple of 4: "not
  defined by this spec: the model refuses it" (R54). Safe: the run stops. Log entry 7. -/
  | undefinedAccess (off n : Nat)
  /-- Raised by a host access outside the window: it "does not reach the engine" (R54), and it is
  refused, "not a host move of the model" (93_implementation_defined.md section 2, D28). Safe: the run
  stops. Log entry 7. -/
  | outsideWindow (off n : Nat)
deriving DecidableEq, Repr

/-- The state of the machine (R20). The last two fields are the model's own: they make the host's
list of moves and the values it reads part of one deterministic step (R267, log entry 5). -/
structure State where
  /-- `H[0..4]`, the hash state (R21) -/
  H : Words5
  /-- `BUF[0..127]`, the carry buffer (R22) -/
  BUF : Memory
  /-- `BUFLEN`, 0 .. 127, 7 bits (R23) -/
  BUFLEN : Fin 128
  /-- `TOTBITS`, the total-bit counter (R24) -/
  TOTBITS : Word
  /-- `LB[0..9][0..9]`, the stored lanes of a stage (R25) -/
  LB : Vector Lane 10
  /-- `BB[0..4][0..4]`, the BIG-box sub-states (R26) -/
  BB : Vector Words5 5
  /-- `ACTIVE`, the phase: a hash is in progress (R27) -/
  ACTIVE : Bool
  /-- `ERR_ILL`, sticky (R28) -/
  ERR_ILL : Bool
  /-- `ERR_SEQ`, sticky (R28) -/
  ERR_SEQ : Bool
  /-- `DIGEST[0..39]`, the output register (R29) -/
  DIGEST : Vector Byte 40
  /-- `DVALID`, the digest register holds a digest (R29) -/
  DVALID : Bool
  /-- the host's moves still to come, the next one first (R31, R267) -/
  pending : List HostAction
  /-- the values the host's register reads have returned, oldest first (R267) -/
  reads : List Word32
deriving DecidableEq, Repr

/-- Five zero words. -/
def zeroWords5 : Words5 := Vector.replicate 5 0

/-- A lane of ten zero words; also the padding lane `Z` of R180. -/
def zeroLane : Lane := Vector.replicate 10 0

/-- Forty zero bytes. -/
def zeroDigest : Vector Byte 40 := Vector.replicate 40 0

/-- The machine right after hardware reset: the "Hardware reset" column of R36 (R260). The host has
issued no move and read nothing yet (DESIGN CHOICE, log entry 5). -/
def State.reset : State :=
  { H := zeroWords5
    BUF := []
    BUFLEN := 0
    TOTBITS := 0
    LB := Vector.replicate 10 zeroLane
    BB := Vector.replicate 5 zeroWords5
    ACTIVE := false
    ERR_ILL := false
    ERR_SEQ := false
    DIGEST := zeroDigest
    DVALID := false
    pending := []
    reads := [] }

end Sys2Proof.Machine
end

