-- ==== Sys2Proof/Machine/Ops.lean ====
section
/-! DEFINITION. The named operations over the state: the carry buffer as byte memory, one update per
piece of state, and raising an engine error. -/

namespace Sys2Proof.Machine

/-! ### The carry buffer as byte memory (R22, R51) -/

/-- Read of one byte: the first entry of the address, or the unlisted value. -/
def Memory.read (m : Memory) (a : Fin 128) : Byte :=
  match m with
  | [] => Memory.unlisted
  | (b, v) :: rest => if b = a.val then v else Memory.read rest a

/-- Removal of every entry of an address. -/
def Memory.erase (m : Memory) (a : Fin 128) : Memory :=
  m.filter fun c => c.1 != a.val

/-- Insertion of an entry at its place in the rising order. -/
def Memory.insert (m : Memory) (a : Fin 128) (v : Byte) : Memory :=
  match m with
  | [] => [(a.val, v)]
  | (b, w) :: rest =>
    if a.val < b then (a.val, v) :: (b, w) :: rest
    else if a.val = b then (a.val, v) :: rest
    else (b, w) :: Memory.insert rest a v

/-- Write of one byte (R51); writing what an unlisted address reads as removes the entry, so that
equal contents are equal lists. -/
def Memory.write (m : Memory) (a : Fin 128) (v : Byte) : Memory :=
  if v = Memory.unlisted then m.erase a else m.insert a v

/-- The canonical form: addresses strictly rising and below 128, no entry equal to the unlisted
value. -/
def Memory.wf (m : Memory) : Bool :=
  decide (m.Pairwise fun c d => c.1 < d.1) &&
    m.all fun c => decide (c.1 < 128) && c.2 != Memory.unlisted

/-! ### One update per piece of state -/

/-- `H[0..4] <- h` (R21). -/
def State.setH (s : State) (h : Words5) : State := { s with H := h }

/-- `BUF[a] <- v` (R22, R51). -/
def State.storeByte (s : State) (a : Fin 128) (v : Byte) : State := { s with BUF := s.BUF.write a v }

/-- `BUFLEN <- n` (R23). -/
def State.setBufLen (s : State) (n : Fin 128) : State := { s with BUFLEN := n }

/-- `TOTBITS <- TOTBITS + 8`, wrapping (R24, R223). -/
def State.countByte (s : State) : State := { s with TOTBITS := s.TOTBITS + 8 }

/-- `LB[b][0..9] <- L` (R25, R194). -/
def State.setLane (s : State) (b : Fin 10) (L : Lane) : State := { s with LB := s.LB.set b L }

/-- `BB[i][0..4] <- v` (R26, R195, R196). -/
def State.setSubState (s : State) (i : Fin 5) (v : Words5) : State := { s with BB := s.BB.set i v }

/-- `ACTIVE <- b` (R27). -/
def State.setActive (s : State) (b : Bool) : State := { s with ACTIVE := b }

/-- The context zeroed: H, BUF, BUFLEN, TOTBITS, LB, BB (R209, R225). -/
def State.zeroContext (s : State) : State :=
  { s with
    H := zeroWords5
    BUF := []
    BUFLEN := 0
    TOTBITS := 0
    LB := Vector.replicate 10 zeroLane
    BB := Vector.replicate 5 zeroWords5 }

/-- `DIGEST <- d; DVALID <- 1` (R29, R208). -/
def State.setDigest (s : State) (d : Vector Byte 40) : State := { s with DIGEST := d, DVALID := true }

/-- `DIGEST[0..39] <- 0; DVALID <- 0` (R29, R220, R225). -/
def State.clearDigest (s : State) : State := { s with DIGEST := zeroDigest, DVALID := false }

/-- The host's moves still to come (model's own, log entry 5). -/
def State.setPending (s : State) (ms : List HostAction) : State := { s with pending := ms }

/-- A register read returns a value to the host (R55, R267). -/
def State.pushRead (s : State) (v : Word32) : State := { s with reads := s.reads ++ [v] }

/-- The bytes of the buffer, as the block parser reads them (R52). -/
def State.bufBytes (s : State) (a : Fin 128) : Byte := s.BUF.read a

/-! ### Errors and reset -/

/-- Raising an engine error (R241, R242, R244): the one sticky flag is set and nothing else changes;
nothing is saved, no mode is switched, control goes nowhere. There is no return (R245): the next host
move simply finds the flag set, and only hardware reset clears it. -/
def State.raise (e : EngineError) (s : State) : State :=
  match e with
  | .illegal => { s with ERR_ILL := true }
  | .sequence => { s with ERR_SEQ := true }

/-- Hardware reset (R260): every piece of the engine's state takes its reset value. The host is not
reset: its remaining moves and what it has read stay (log entry 5). -/
def State.hardwareReset (s : State) : State :=
  { State.reset with pending := s.pending, reads := s.reads }

/-- The host's next move, and the state with the rest of its moves (R31, R60). -/
def State.fetch (s : State) : Option (HostAction × State) :=
  match s.pending with
  | [] => none
  | a :: rest => some (a, s.setPending rest)

end Sys2Proof.Machine
end

