-- ==== Sys2Proof/Machine/Lifecycle.lean ====
section
/-! DEFINITION. The commands `INIT`, `RESET` and `WIPE` (spec 47_commands.md R220 to R222, R225).
None has a precondition, sets a flag or raises an error. -/

namespace Sys2Proof.Machine

/-- The initial H of R221 after its three exclusive-ors, before the init-mix. -/
def hashSeed : Words5 :=
  #v[0xBB67AE854A7D9E31 ^^^ 0x9E3779B97F4A7C15,
     0x5BE0CD19B7F3A69C ^^^ 0xBF58476D1CE4E5B9,
     0x6A09E667F2B5C8D3 ^^^ 0x94D049BB133111EB,
     0x3C6EF372D8B4F1A6,
     0x510E527F4D8C3A92]

/-- Step i of the init-mix, in place: the last line reads the state as it stands (R221). -/
def initMixStep (cfg : Cfg) (H : Words5) (i : Fin 5) : Words5 :=
  let x := H[i] ^^^ rc cfg (i.val * 10)
  let x := rotl x (count (17 + i.val * 7))
  let x := x * 0x9E3779B97F4A7C15
  H.set i (x ^^^ H[i + 2])

/-- `Hinit(cfg)` (R221): the five init-mix steps in ascending i. -/
def hinit (cfg : Cfg) : Words5 := (List.finRange 5).foldl (initMixStep cfg) hashSeed

/-- A fresh context (R220): H <- Hinit, the rest of the context zero, ACTIVE <- 1, DIGEST and DVALID
cleared; the error flags keep their values. -/
def startHash (cfg : Cfg) (s : State) : State :=
  (((s.zeroContext).setH (hinit cfg)).setActive true).clearDigest

/-- `INIT` (R220). -/
def execInit (s : State) : Host.Outcome State Fault Refusal :=
  .next (startHash Config.cfg s)

/-- `RESET` (R222): "exactly the effect of `INIT`", in both phases. -/
def execReset (s : State) : Host.Outcome State Fault Refusal :=
  .next (startHash Config.cfg s)

/-- `WIPE` (R225): everything zero but the error flags. -/
def execWipe (s : State) : Host.Outcome State Fault Refusal :=
  .next (((s.zeroContext).setActive false).clearDigest)

end Sys2Proof.Machine
end

