-- ==== Sys2Proof/Machine/LittleBox.lean ====
section
/-! DEFINITION. Component C5: the LITTLE-box executor (spec 44_little_box.md), its equations as
written; that they zero the six load slots is a theorem about them (R177 to R179), not used here. -/

namespace Sys2Proof.Machine

/-- `f(t) = t ^ rotl(t, 17)`, the last line of MIX_LANES (R170). -/
def mixTail (t : Word) : Word := t ^^^ rotl t 17

/-- `MIX_LANES(V)` (R170): the exclusive or of two permutations of V, V itself not among them. -/
def mixLanes (V : Vec4) : Vec4 :=
  let p0 := permute V 0x4E
  let p1 := permute p0 0xB1
  (p0.zip (· ^^^ ·) p1).map mixTail

/-- The multiplier of ARX (R169). -/
def arxMultiplier : Word := 0x800000000000808A

/-- `ARX(V, salt_v, rc, r1, r2)` (R169). -/
def arx (V saltV rcV : Vec4) (r1 r2 : Count) : Vec4 :=
  let V := V.zip (· + ·) saltV
  let V := V.zip (· ^^^ ·) rcV
  let V := V.map fun v => v + rotl v r1
  let V := V.map fun v => v ^^^ rotr v r2
  let V := mixLanes V
  V.map (· * arxMultiplier)

/-- The scalar part of HXOR, its last eight lines (R174). -/
def hxorScalar (r : Word) : Word :=
  let r := r ^^^ shr r 31
  let r := r * 0x88
  let r := r ^^^ shr r 29
  let r := r * 0x8000000000008089
  let r := r ^^^ shr r 32
  let r := rotr r 17 ^^^ rotl r 43
  let r := r * 0x8000000080008081
  r ^^^ shr r 27

/-- `HXOR(V)` (R174): the permutes act on the running value (D17). -/
def hxor (V : Vec4) : Word :=
  let V := mixLanes V
  let V := V.zip (· ^^^ ·) (permute V 0x4E)
  let V := V.zip (· ^^^ ·) (permute V 0xB1)
  hxorScalar (V.v0 ^^^ V.v1 ^^^ V.v2 ^^^ V.v3)

/-- Four lanes: one group of a batch (R166). -/
structure Group where
  l0 : Lane
  l1 : Lane
  l2 : Lane
  l3 : Lane
deriving DecidableEq, Repr

/-- The vector of slot k of the four lanes (R167). -/
def Group.slot (L : Group) (k : Fin 10) : Vec4 := ⟨L.l0[k], L.l1[k], L.l2[k], L.l3[k]⟩

/-- The six vectors of the kernel (R167): odd load slots 1, 5, 9 and, with the suffix `l`, even load
slots 0, 4, 8. -/
structure LoadVectors where
  v0 : Vec4
  v0l : Vec4
  v1 : Vec4
  v1l : Vec4
  v2 : Vec4
  v2l : Vec4
deriving DecidableEq, Repr

/-- Vector formation (R167). -/
def loadVectors (L : Group) : LoadVectors :=
  { v0 := L.slot 1, v0l := L.slot 0
    v1 := L.slot 5, v1l := L.slot 4
    v2 := L.slot 9, v2l := L.slot 8 }

/-- A round-constant vector: `RC(r0+t) .. RC(r0+t+3)` (R168). -/
def rcVector (cfg : Cfg) (r0 t : Nat) : Vec4 :=
  ⟨rc cfg (r0 + t), rc cfg (r0 + (t + 1)), rc cfg (r0 + (t + 2)), rc cfg (r0 + (t + 3))⟩

/-- The sweep (R171). -/
def sweep (cfg : Cfg) (s : Word) (r0 : Nat) (V : LoadVectors) : LoadVectors :=
  let saltV := broadcast s
  { v0 := arx V.v0 saltV (rcVector cfg r0 0) 7 13
    v0l := arx V.v0l saltV (rcVector cfg r0 0) 7 13
    v1 := arx V.v1 saltV (rcVector cfg r0 4) 11 17
    v1l := arx V.v1l saltV (rcVector cfg r0 4) 11 17
    v2 := arx V.v2 saltV (rcVector cfg r0 8) 19 23
    v2l := arx V.v2l saltV (rcVector cfg r0 8) 19 23 }

/-- MIX_LANES once more on all six vectors (R172). -/
def remix (V : LoadVectors) : LoadVectors :=
  { v0 := mixLanes V.v0, v0l := mixLanes V.v0l
    v1 := mixLanes V.v1, v1l := mixLanes V.v1l
    v2 := mixLanes V.v2, v2l := mixLanes V.v2l }

/-- The slot 9 value of the store-back row with pattern `pat` (R173). -/
def slot9 (V : LoadVectors) (pat : Byte) : Word :=
  hxor (((permute V.v0 pat).zip (· ^^^ ·) (permute V.v1 pat)).zip (· ^^^ ·) (permute V.v2 pat))

/-- One row of the store-back table (R173): slots 0, 1, 4, 5, 8, 9 of a lane; slots 2, 3, 6, 7 are
not written (R176). -/
def storeRow (L : Lane) (s0 s1 s4 s5 s8 s9 : Word) : Lane :=
  (((((L.set 0 s0).set 1 s1).set 4 s4).set 5 s5).set 8 s8).set 9 s9

/-- Store-back (R173); lanes 2 and 3 receive the `l` vectors (D18). -/
def storeBack (L : Group) (V : LoadVectors) : Group :=
  { l0 := storeRow L.l0 V.v0.v0 V.v0.v1 V.v1.v0 V.v1.v1 V.v2.v0 (slot9 V 0x00)
    l1 := storeRow L.l1 V.v0.v2 V.v0.v3 V.v1.v2 V.v1.v3 V.v2.v2 (slot9 V 0x55)
    l2 := storeRow L.l2 V.v0l.v0 V.v0l.v1 V.v1l.v0 V.v1l.v1 V.v2l.v0 (slot9 V 0xAA)
    l3 := storeRow L.l3 V.v0l.v2 V.v0l.v3 V.v1l.v2 V.v1l.v3 V.v2l.v2 (slot9 V 0xFF) }

/-- Cross-lane mix of a full batch (R175). -/
def crossLaneMix (L : Group) : Group :=
  let m := L.l0[9] ^^^ L.l1[9] ^^^ L.l2[9] ^^^ L.l3[9]
  let m := rotr m 17 ^^^ rotl m 43
  let m := m * 0x9E3779B97F4A7C15
  { l0 := L.l0.set 9 (L.l0[9] ^^^ m)
    l1 := L.l1.set 9 (L.l1[9] ^^^ rotr m 11)
    l2 := L.l2.set 9 (L.l2[9] ^^^ rotl m 23)
    l3 := L.l3.set 9 (L.l3[9] ^^^ (m ^^^ shr m 31)) }

/-- The 4-lane kernel (R166 to R176); `full` is true for a full batch. -/
def kernel4 (cfg : Cfg) (L : Group) (s : Word) (r0 : Nat) (full : Bool) : Group :=
  let stored := storeBack L (remix (sweep cfg s r0 (loadVectors L)))
  if full then crossLaneMix stored else stored

/-- The executor on a batch of one lane, as the BIG-box stage calls it (R180). -/
def littleBox1 (cfg : Cfg) (L : Lane) (s : Word) (r0 : Nat) : Lane :=
  (kernel4 cfg ⟨L, zeroLane, zeroLane, zeroLane⟩ s r0 false).l0

/-- The executor on a batch of up to four lanes (R165, R166): tail groups are padded with zero lanes
whose outputs are discarded. A batch of more than four lanes is left out (R166, D33, U12). -/
def littleBox (cfg : Cfg) (lanes : List Lane) (s : Word) (r0 : Nat) : Option (List Lane) :=
  match lanes with
  | [] => some []
  | [a] =>
    let K := kernel4 cfg ⟨a, zeroLane, zeroLane, zeroLane⟩ s r0 false
    some [K.l0]
  | [a, b] =>
    let K := kernel4 cfg ⟨a, b, zeroLane, zeroLane⟩ s r0 false
    some [K.l0, K.l1]
  | [a, b, c] =>
    let K := kernel4 cfg ⟨a, b, c, zeroLane⟩ s r0 false
    some [K.l0, K.l1, K.l2]
  | [a, b, c, d] =>
    let K := kernel4 cfg ⟨a, b, c, d⟩ s r0 true
    some [K.l0, K.l1, K.l2, K.l3]
  | _ :: _ :: _ :: _ :: _ :: _ => none

end Sys2Proof.Machine
end

