-- ==== Sys2Proof/Machine/Salt.lean ====
section
/-! DEFINITION. Component C4: the salt generator (spec 43_salt_generator.md). -/

namespace Sys2Proof.Machine

/-- The salt generator's work array (R150), a transient value. -/
abbrev SaltArray := Vector Word 32

/-- The constant added to `counter` after each round (R152). -/
def saltCounterStep : Word := 0x7C5F8E4D3B2A6917

/-- Steps one and two (R150, R151): the seeds, the first five combined with H. -/
def saltStart (cfg : Cfg) (H : Words5) : SaltArray :=
  Vector.ofFn fun j : Fin 32 =>
    if h : j.val < 5 then seed cfg j ^^^ H[j.val] else seed cfg j

/-- The update of work word j in one round (R152): the read of `s[(j+3) mod 8]` sees the array as it
stands (D14). -/
def saltWord (counter : Word) (round : Nat) (s : SaltArray) (j : Fin 32) : SaltArray :=
  let t1 := rotl s[j] (count (j.val * 7 + round * 3))
  let t2 := rotr s[(j.val + 3) % 8] (count (j.val * 5 + round * 2))
  s.set j ((s[j] ^^^ (t1 ^^^ t2)) + counter)

/-- One outer round: all 32 words in ascending j, then the counter is stepped once (R152, D13). -/
def saltRound (st : SaltArray × Word) (round : Nat) : SaltArray × Word :=
  ((List.finRange 32).foldl (saltWord st.2 round) st.1, st.2 + saltCounterStep)

/-- The seven rounds, numbered 0 to 6 (R152, D12), from `cfg.SALT_COUNTER_INIT` (R153). -/
def saltRounds (cfg : Cfg) (s : SaltArray) : SaltArray :=
  ((List.range 7).foldl saltRound (s, cfg.SALT_COUNTER_INIT)).1

/-- The finishing function `F(v)` (R154). -/
def saltF (v : Word) : Word :=
  let v := v ^^^ shr v 31
  let v := v * 0x3A8F7E6D5C4B2918
  let v := v ^^^ shr v 29
  v * 0x276D9C5F8E3B41A2

/-- Step four (R155): `S[i] = F(s[i] ^ s[(i+3) mod 8])`. -/
def saltFinish (s : SaltArray) : Words5 :=
  Vector.ofFn fun i : Fin 5 => saltF (s[i.val] ^^^ s[(i.val + 3) % 8])

/-- `salt_gen(H)` (R150 to R155), a pure function of H and `cfg` (R153). -/
def saltGen (cfg : Cfg) (H : Words5) : Words5 :=
  saltFinish (saltRounds cfg (saltStart cfg H))

end Sys2Proof.Machine
end

