-- ==== Sys2Proof/Machine/BigBox.lean ====
section
/-! DEFINITION. Component C6: the BIG-box stage (spec 45_big_box.md). -/

namespace Sys2Proof.Machine

/-- The round base of stage i, `R = i * 2000` (R190). -/
def roundBase (i : Fin 5) : Nat := i.val * 2000

/-- Lane construction (R192): five words H ^ S, five words H ^ RC. -/
def buildLane (cfg : Cfg) (H S : Words5) (b : Fin 10) : Lane :=
  Vector.ofFn fun n : Fin 10 =>
    if h : n.val < 5 then H[n.val] ^^^ S[n.val]
    else H[n.val - 5] ^^^ rc cfg (b.val * 10 + (n.val - 5))

/-- The local salt variation `sv = S[b mod 5] ^ RC(b*10)` (R193). -/
def saltVariation (cfg : Cfg) (S : Words5) (b : Fin 10) : Word :=
  S[b.val % 5] ^^^ rc cfg (b.val * 10)

/-- Lane b of stage i after the LITTLE-box call (R192, R193). -/
def stageLane (cfg : Cfg) (H S : Words5) (i : Fin 5) (b : Fin 10) : Lane :=
  littleBox1 cfg (buildLane cfg H S b) (saltVariation cfg S b) (roundBase i + b.val * 10)

/-- The fold of word k over the ten lanes, XOR then add, b = 0 .. 9 in order (R195). -/
def foldLanes (LB : Vector Lane 10) (k : Fin 5) : Word :=
  (List.finRange 10).foldl
    (fun acc b => (acc ^^^ LB[b][2 * k.val]) + LB[b][2 * k.val + 1]) 0

/-- The finish of the sub-state (R196): the fourth argument is R + 1000 as a word (D34). -/
def finishSubState (cfg : Cfg) (S : Words5) (i : Fin 5) (LB : Vector Lane 10) : Words5 :=
  Vector.ofFn fun k : Fin 5 =>
    gammaMix (foldLanes LB k) S[k] (rc cfg (i.val * 100 + k.val)) (BitVec.ofNat 64 (roundBase i + 1000))

/-- The ten lanes of stage i built and stored, b = 0 .. 9 (R192 to R194). -/
def storeLanes (cfg : Cfg) (S : Words5) (i : Fin 5) (s : State) : State :=
  (List.finRange 10).foldl (fun t b => t.setLane b (stageLane cfg t.H S i b)) s

/-- `big_box(i)` (R190): salt, lanes, fold and finish. Writes LB and BB[i] only. -/
def bigBox (cfg : Cfg) (s : State) (i : Fin 5) : State :=
  let S := saltGen cfg s.H
  let t := storeLanes cfg S i s
  t.setSubState i (finishSubState cfg S i t.LB)

end Sys2Proof.Machine
end

