-- ==== Sys2Proof/Machine/Compressor.lean ====
section
/-! DEFINITION. Component C3: the block parser and the block compressor (spec
42_block_compressor.md). -/

namespace Sys2Proof.Machine

/-- Block parser (R52, R140): `B[j] = bytes_to_u64(bytes[8j .. 8j+7])`. -/
def parseBlock (bytes : Fin 128 → Byte) : Block :=
  Vector.ofFn fun j : Fin 16 => bytesToU64 fun k => bytes ⟨8 * j.val + k.val, by omega⟩

/-- The ten assignments of one compressor iteration (R141): `a` is H[i], `b`, `c`, `d` the block
words, `hNext` and `hPrev` the neighbours H[(i+1) mod 5] and H[(i+4) mod 5]. -/
def compressWord (a b c d hNext hPrev : Word) : Word :=
  let a := rotl (a + (b ^^^ 0x6A09E667BB67AE85)) 13
  let a := rotl (a ^^^ (c + 0x3C6EF372A54FF53A)) 29
  let a := rotl (a + (d ^^^ 0x510E527F9B05688C)) 37
  let a := a ^^^ hNext
  let a := rotl (a + hPrev) 17
  let a := a ^^^ shr a 32
  let a := a ^^^ shl a 21
  let a := a * 0x1F83D9AB5BE0CD19
  let a := a ^^^ shr a 29
  a ^^^ shl a 17

/-- Iteration i of the compressor, in place: the neighbours are read as they stand (R142). Index
arithmetic in `Fin 5` is arithmetic mod 5. -/
def compressStep (B : Block) (H : Words5) (i : Fin 5) : Words5 :=
  H.set i (compressWord H[i] B[i.val] B[i.val + 5] B[i.val + 10] H[i + 1] H[i + 4])

/-- `compress(H, B)` (R141): the five iterations in ascending i. -/
def compress (H : Words5) (B : Block) : Words5 :=
  (List.finRange 5).foldl (compressStep B) H

end Sys2Proof.Machine
end

