-- ==== Sys2Proof/Machine/Finalizer.lean ====
section
/-! DEFINITION. Component C7: padding, the five stages, the output mixes, serialisation and clean-up
(spec 46_finalizer.md): the body of `FINAL`. -/

namespace Sys2Proof.Machine

/-- Step 1, padding (R200): `BUF[BUFLEN] <- 0x80`, zero at every higher index. -/
def padBuffer (s : State) : State :=
  ((List.finRange 128).filter (s.BUFLEN < ·)).foldl (fun t n => t.storeByte n 0)
    (s.storeByte s.BUFLEN 0x80)

/-- Parse the buffer and compress it into H (R140, R141): step 2 of `FINAL` (R201) and the block
dispatch of `UPDATE` (R223). -/
def compressBuffer (s : State) : State :=
  s.setH (compress s.H (parseBlock s.bufBytes))

/-- Step 3, the five stages in order (R202). -/
def runStages (cfg : Cfg) (s : State) : State :=
  (List.finRange 5).foldl (bigBox cfg) s

/-- The rotation table of output-mix A (R203). -/
def mixARot : Fin 5 → Count
  | 0 => 31
  | 1 => 27
  | 2 => 33
  | 3 => 23
  | 4 => 29

/-- Output-mix A on word i (R203); x starts as H[i] (D20). -/
def outMixAWord (i : Fin 5) (x : Word) : Word :=
  let x := x ^^^ rotr x (mixARot i)
  let x := x * 0x510E9BB7927522F5
  let x := x + 0x243F6A8885A308D3
  let x := x ^^^ rotr x (mixARot (i + 1))
  let x := x * 0xA0761D647ABD642F
  let x := x ^^^ shr x 23
  x ^^^ shr x 38

/-- Step 4, output-mix A (R203). -/
def outMixA (H : Words5) : Words5 := Vector.ofFn fun i : Fin 5 => outMixAWord i H[i]

/-- The inner step of output-mix B with sub-state bb (R204); both rotations read the same acc. -/
def outMixBFold (BB : Vector Words5 5) (i : Fin 5) (acc : Word) (bb : Fin 5) : Word :=
  let acc := acc ^^^ BB[bb][i]
  let acc := rotr acc 19 ^^^ rotl acc 37
  let acc := acc + BB[bb][i + 2]
  acc * 0x9E3779B97F4A7C15

/-- The closing lines of output-mix B (R204). -/
def outMixBTail (acc : Word) : Word :=
  let acc := acc ^^^ shr acc 29
  let acc := acc * 0xBF58476D1CE4E5B9
  let acc := acc ^^^ shr acc 27
  let acc := acc * 0x94D049BB133111EB
  acc ^^^ shr acc 31

/-- Step 5, output-mix B (R204). -/
def outMixB (BB : Vector Words5 5) (H : Words5) : Words5 :=
  Vector.ofFn fun i : Fin 5 => outMixBTail ((List.finRange 5).foldl (outMixBFold BB i) H[i])

/-- `extra_mix(x)` (R205). -/
def extraMix (x : Word) : Word :=
  let x := x ^^^ shr x 27
  let x := x * 0x9E3779B97F4A7C15
  let x := x ^^^ shr x 31
  let x := x * 0xBF58476D1CE4E5B9
  let x := x ^^^ shr x 29
  x + rotl x 41

/-- One round of output-mix C (R206), r in 0..2; `B[r mod 5]` is BB[r]. -/
def outMixCRound (BB : Vector Words5 5) (H : Words5) (r : Fin 3) : Words5 :=
  Vector.ofFn fun i : Fin 5 => rotl (extraMix H[i] ^^^ BB[r.val][i]) (count (17 + r.val * 5))

/-- Step 6, output-mix C (R206): rounds 0, 1, 2. -/
def outMixC (BB : Vector Words5 5) (H : Words5) : Words5 :=
  (List.finRange 3).foldl (outMixCRound BB) H

/-- The word m of a round of output-mix D (R207). -/
def outMixDWord (H : Words5) : Word :=
  (List.finRange 5).foldl (fun (m : Word) (i : Fin 5) => rotl (m ^^^ H[i]) 17 ^^^ H[i + 2]) 0

/-- The update of H[i] in a round of output-mix D, in place (R207, D20): for i = 4 the word H[i + 1]
is H[0], already updated in this round. -/
def outMixDStep (m : Word) (H : Words5) (i : Fin 5) : Words5 :=
  let x := H[i] ^^^ rotl m (count (i.val * 13))
  let x := x * 0x9E3779B97F4A7C15
  let x := x ^^^ shr H[i + 1] (count (i.val * 7 + 3))
  H.set i (rotr x (count (23 + i.val * 5)))

/-- One round of output-mix D (R207). -/
def outMixDRound (H : Words5) : Words5 :=
  (List.finRange 5).foldl (outMixDStep (outMixDWord H)) H

/-- Step 7, output-mix D (R207): five rounds. -/
def outMixD (H : Words5) : Words5 :=
  (List.range 5).foldl (fun h _ => outMixDRound h) H

/-- Step 8, serialisation (R53, R208): `DIGEST[8i + k] = (H[i] >> 8k) & 0xFF`. -/
def serialize (H : Words5) : Vector Byte 40 :=
  Vector.ofFn fun n : Fin 40 => u64ToBytes H[n.val / 8] ⟨n.val % 8, by omega⟩

/-- Steps 4 to 7 on the state: the four output mixes in order (R203, R204, R206, R207). -/
def mixOutput (s : State) : State :=
  let s := s.setH (outMixA s.H)
  let s := s.setH (outMixB s.BB s.H)
  let s := s.setH (outMixC s.BB s.H)
  s.setH (outMixD s.H)

/-- Step 8 on the state (R208). -/
def emitDigest (s : State) : State := s.setDigest (serialize s.H)

/-- Clean-up (R209): the context zeroed, `ACTIVE <- 0`; DIGEST and DVALID stay. -/
def closeContext (s : State) : State := (s.zeroContext).setActive false

/-- The body of `FINAL` (R224): R200 to R209 in order. -/
def finalize (cfg : Cfg) (s : State) : State :=
  closeContext (emitDigest (mixOutput (runStages cfg (compressBuffer (padBuffer s)))))

end Sys2Proof.Machine
end

