-- ==== Sys2Proof/Machine/Operands.lean ====
section
/-! DEFINITION. What a host access addresses (spec 20_memory.md R54, R57) and the one operand of a
command (spec 30_encoding.md R73). -/

namespace Sys2Proof.Machine

/-- The operand of `UPDATE`: the byte as it stands, with no extension, scaling or shifting (R73). -/
def messageByte (byte : Byte) : Byte := byte

/-- The registers of the host window (R30, R57). -/
inductive WindowReg where
  | cmd
  | status
  | totbitsLo
  | totbitsHi
  | digestW (j : Fin 10)
  | reserved
deriving DecidableEq, Repr

/-- What an access of `n` bytes at byte offset `off` reaches (R54). -/
inductive AccessTarget where
  /-- a 32-bit access at a multiple of 4 inside the window -/
  | register (r : WindowReg)
  /-- inside the window, of another width or alignment: not defined -/
  | undefined
  /-- starting outside the 64 bytes of the window: no move of the host -/
  | outside
deriving DecidableEq, Repr

/-- The register in slot k, at offset 4k (R57). -/
def windowReg (k : Fin 16) : WindowReg :=
  if h : 4 ≤ k.val ∧ k.val ≤ 13 then .digestW ⟨k.val - 4, by omega⟩
  else if k = 0 then .cmd
  else if k = 1 then .status
  else if k = 2 then .totbitsLo
  else if k = 3 then .totbitsHi
  else .reserved

/-- The target of an access (R54, R57). -/
def accessTarget (off n : Nat) : AccessTarget :=
  if h : off < 64 then
    if n = 4 ∧ off % 4 = 0 then .register (windowReg ⟨off / 4, by omega⟩) else .undefined
  else .outside

/-- The offset in the window of a byte address: the window is `cfg.BASE + 0x00` to `cfg.BASE + 0x3F`
(R54, R57), and an address outside it has none. -/
def offsetOfAddress (cfg : Cfg) (addr : Nat) : Option Nat :=
  if cfg.BASE ≤ addr ∧ addr < cfg.BASE + 64 then some (addr - cfg.BASE) else none

/-- The host move of a write of `n` bytes at a byte address; an address outside the window makes no
move of the host (R54, D28). -/
def busWrite (cfg : Cfg) (addr n : Nat) (v : Word32) : Option HostAction :=
  (offsetOfAddress cfg addr).map fun off => .write off n v

/-- The host move of a read of `n` bytes at a byte address; none outside the window (R54, D28). -/
def busRead (cfg : Cfg) (addr n : Nat) : Option HostAction :=
  (offsetOfAddress cfg addr).map fun off => .read off n

end Sys2Proof.Machine
end

