-- ==== Sys2Proof/Machine/Streaming.lean ====
section
/-! DEFINITION. The commands `UPDATE` and `FINAL` (spec 47_commands.md R223, R224), which need
`ACTIVE = 1` and otherwise raise `ERR_SEQ` (spec 60_exceptions.md R242). -/

namespace Sys2Proof.Machine

/-- Absorbing one byte (R223). The momentary `BUFLEN = 128` exists only inside this definition; after
a dispatch `BUF` keeps its bytes (D22). -/
def absorb (byte : Byte) (s : State) : State :=
  let t := (s.storeByte s.BUFLEN byte).countByte
  if h : s.BUFLEN.val + 1 < 128 then t.setBufLen ⟨s.BUFLEN.val + 1, h⟩
  else (compressBuffer t).setBufLen 0

/-- `UPDATE byte` (R223). -/
def execUpdate (byte : Byte) (s : State) : Host.Outcome State Fault Refusal :=
  if s.ACTIVE then .next (absorb (messageByte byte) s) else .next (s.raise .sequence)

/-- `FINAL` (R224). -/
def execFinal (s : State) : Host.Outcome State Fault Refusal :=
  if s.ACTIVE then .next (finalize Config.cfg s) else .next (s.raise .sequence)

end Sys2Proof.Machine
end

