-- ==== Sys2Proof/Machine/Flags.lean ====
section
/-! DEFINITION. The flags and the `STATUS` register (spec 10_state.md R27 to R30). The engine's only
flags are ACTIVE, DVALID, ERR_SEQ and ERR_ILL; no arithmetic operation sets one (R28, R249). -/

namespace Sys2Proof.Machine

/-- One bit of a register. -/
def flagBit (b : Bool) : BitVec 1 := BitVec.ofBool b

/-- The `STATUS` register (R30): bits 31:15 read 0, 14:8 BUFLEN, 7:4 read 0, 3 ERR_ILL, 2 ERR_SEQ,
1 DVALID, 0 ACTIVE. -/
def statusWord (s : State) : Word32 :=
  (0 : BitVec 17) ++ BitVec.ofNat 7 s.BUFLEN.val ++ (0 : BitVec 4) ++
    flagBit s.ERR_ILL ++ flagBit s.ERR_SEQ ++ flagBit s.DVALID ++ flagBit s.ACTIVE

end Sys2Proof.Machine
end

