-- ==== Sys2Proof/Machine/Window.lean ====
section
/-! DEFINITION. Register reads of the host window (spec 10_state.md R30, 20_memory.md R55, R56,
47_commands.md R226). -/

namespace Sys2Proof.Machine

/-- `DIGEST_Wj` (R30): digest bytes 4j .. 4j+3, byte 4j in bits 7:0. -/
def digestWord (d : Vector Byte 40) (j : Fin 10) : Word32 :=
  d[4 * j.val + 3] ++ d[4 * j.val + 2] ++ d[4 * j.val + 1] ++ d[4 * j.val]

/-- The value a register read returns (R30, R55, R56); `CMD` and reserved offsets read 0. -/
def readRegister (s : State) : WindowReg → Word32
  | .cmd => 0
  | .status => statusWord s
  | .totbitsLo => s.TOTBITS.extractLsb' 0 32
  | .totbitsHi => s.TOTBITS.extractLsb' 32 32
  | .digestW j => digestWord s.DIGEST j
  | .reserved => 0

end Sys2Proof.Machine
end

