-- ==== Sys2Proof/Machine/Issue.lean ====
section
/-! DEFINITION. One move of the host (spec 20_memory.md R54 to R60, 30_encoding.md R78,
60_exceptions.md R241 to R243, 70_reset_and_hazards.md R262). -/

namespace Sys2Proof.Machine

/-- A word is written to `CMD` (R78): a legal word is executed, an illegal one raises `ERR_ILL`
(R241). Legality is checked before phase (R243): the meanings check the phase. -/
def issueCommand (w : Word32) (s : State) : Host.Outcome State Fault Refusal :=
  match decode w with
  | .ok i => exec i s
  | .error _ => .next (s.raise .illegal)

/-- A defined write (R56): `CMD` executes the word, every other register ignores it. -/
def writeRegister (r : WindowReg) (v : Word32) (s : State) : Host.Outcome State Fault Refusal :=
  match r with
  | .cmd => issueCommand v s
  | .status => .next s
  | .totbitsLo => .next s
  | .totbitsHi => .next s
  | .digestW _ => .next s
  | .reserved => .next s

/-- One host move (R60, R262): an access inside the window that is not defined and an access outside it
are refused, each by its name (R54, D28); a read returns its value and changes nothing else. -/
def perform (a : HostAction) (s : State) : Host.Outcome State Fault Refusal :=
  match a with
  | .write off n v =>
    match accessTarget off n with
    | .register r => writeRegister r v s
    | .undefined => .refused (.undefinedAccess off n)
    | .outside => .refused (.outsideWindow off n)
  | .read off n =>
    match accessTarget off n with
    | .register r => .next (s.pushRead (readRegister s r))
    | .undefined => .refused (.undefinedAccess off n)
    | .outside => .refused (.outsideWindow off n)
  | .hardwareReset => .next s.hardwareReset

/-- The host move that issues a command word: `MemWrite(0x00, 4, w)` (R78). -/
def commandMove (w : Word32) : HostAction := .write 0 4 w

end Sys2Proof.Machine
end

