-- ==== Sys2Proof/Machine/Step.lean ====
section
/-! DEFINITION. One step of the machine: the host's next move, taken atomically (spec 20_memory.md
R60). -/

namespace Sys2Proof.Machine

/-- One step. With no move to come the engine holds its state unchanged (R256, log entry 6). -/
def step (s : State) : Host.Outcome State Fault Refusal :=
  match s.fetch with
  | none => .next s
  | some (a, t) => perform a t

/-- `s` with the command word of `w` written to `CMD` as the host's next move, the moves it had
before still to come after it (log entry 5). -/
def State.withFetchWord (s : State) (nbits w : Nat) : State :=
  s.setPending (commandMove (tableWord nbits w) :: s.pending)

end Sys2Proof.Machine
end

