-- ==== Sys2Proof/Machine/Assembler.lean ====
section
/-! DEFINITION. The assembler of command sequences (spec 30_encoding.md R76, R77): one command or
pseudo-command a line. Text is a list of characters. Details the spec leaves open (white space,
decimal numbers, a blank line) are DESIGN CHOICE, log entry 13. -/

namespace Sys2Proof.Machine

/-- A source line: a command (R76) or a pseudo-command (R77). -/
inductive AsmLine where
  | command (i : Instr)
  | updateBytes (bytes : List Byte)
  | updateStr (text : List Byte)
  | hash (bytes : List Byte)
deriving DecidableEq, Repr

/-- `UPDATE_BYTES`: one `UPDATE` a byte, in order; nothing for no byte (R77). -/
def updateBytes (bytes : List Byte) : List Instr := bytes.map .update

/-- `HASH`: `INIT`, the bytes, `FINAL` (R77). -/
def hashCommands (bytes : List Byte) : List Instr := .init :: (updateBytes bytes ++ [.final])

/-- The expansion of a line into commands (R77). -/
def AsmLine.expand : AsmLine → List Instr
  | .command i => [i]
  | .updateBytes bytes => Sys2Proof.Machine.updateBytes bytes
  | .updateStr text => Sys2Proof.Machine.updateBytes text
  | .hash bytes => hashCommands bytes

/-- White space between the parts of a line. -/
def isBlank (c : Char) : Bool := c == ' ' || c == '\t'

/-- A line without its leading white space. -/
def skipBlanks : List Char → List Char
  | [] => []
  | c :: cs => if isBlank c then skipBlanks cs else c :: cs

/-- A line up to its comment, which `;` starts (R76). -/
def dropComment : List Char → List Char
  | [] => []
  | c :: cs => if c == ';' then [] else c :: dropComment cs

/-- The value of a digit, in any base up to 16. -/
def digitValue (c : Char) : Option Nat :=
  let n := c.toNat
  if 48 ≤ n && n ≤ 57 then some (n - 48)
  else if 65 ≤ n && n ≤ 70 then some (n - 55)
  else if 97 ≤ n && n ≤ 102 then some (n - 87)
  else none

/-- The digits of a number, most significant first. -/
def readDigits (base : Nat) (acc : Nat) : List Char → Option Nat
  | [] => some acc
  | c :: cs =>
    match digitValue c with
    | some d => if d < base then readDigits base (acc * base + d) cs else none
    | none => none

/-- A byte as a number: `0x` and hexadecimal digits, or decimal digits; 0 .. 255 (R76). -/
def readByte (cs : List Char) : Option Byte :=
  let value :=
    match cs with
    | [] => none
    | '0' :: 'x' :: d :: ds => readDigits 16 0 (d :: ds)
    | c :: ds => readDigits 10 0 (c :: ds)
  match value with
  | some n => if n < 256 then some (BitVec.ofNat 8 n) else none
  | none => none

/-- A text cut at each comma. -/
def splitCommas : List Char → List (List Char)
  | [] => [[]]
  | c :: cs =>
    match splitCommas cs with
    | [] => [[c]]
    | p :: ps => if c == ',' then [] :: p :: ps else (c :: p) :: ps

/-- A text without white space at either end. -/
def trimBlanks (cs : List Char) : List Char := (skipBlanks (skipBlanks cs).reverse).reverse

/-- A list of bytes between commas; empty for an empty text (R77). -/
def readBytes (cs : List Char) : Option (List Byte) :=
  match trimBlanks cs with
  | [] => some []
  | c :: ds => (splitCommas (c :: ds)).mapM fun p => readByte (trimBlanks p)

/-- The ASCII code of a character (R77, 93_implementation_defined.md G4). -/
def asciiByte (c : Char) : Option Byte := if c.toNat < 128 then some (BitVec.ofNat 8 c.toNat) else none

/-- The characters up to the closing quotation mark, and what follows it. -/
def readQuoted : List Char → Option (List Char × List Char)
  | [] => none
  | c :: cs =>
    if c.toNat = 34 then some ([], cs)
    else (readQuoted cs).map fun r => (c :: r.1, r.2)

/-- The operand of `UPDATE_STR`: text between quotation marks, then nothing but a comment (R77). A `;`
inside the quotation marks is a character of the text and starts no comment: R76 lets `;` start a
comment and R77 takes the characters of the text, and neither says which holds there (DESIGN CHOICE,
log entry 13). -/
def readText (cs : List Char) : Option (List Byte) :=
  match skipBlanks cs with
  | [] => none
  | c :: ds =>
    if c.toNat = 34 then
      match readQuoted ds with
      | some (text, rest) => if trimBlanks (dropComment rest) = [] then text.mapM asciiByte else none
      | none => none
    else none

/-- The mnemonic of a line and what follows it. -/
def splitMnemonic : List Char → List Char × List Char
  | [] => ([], [])
  | c :: cs =>
    if isBlank c || c == ';' then ([], c :: cs)
    else (c :: (splitMnemonic cs).1, (splitMnemonic cs).2)

/-- A line of source text (R76, R77); `some none` is a line with no command, `none` no source line. -/
def parseLine (line : List Char) : Option (Option AsmLine) :=
  let (mnemonic, rest) := splitMnemonic (skipBlanks line)
  let operands := trimBlanks (dropComment rest)
  let plain (i : Instr) : Option (Option AsmLine) :=
    if operands = [] then some (some (.command i)) else none
  if mnemonic = [] then some none
  else if mnemonic = ['I', 'N', 'I', 'T'] then plain .init
  else if mnemonic = ['F', 'I', 'N', 'A', 'L'] then plain .final
  else if mnemonic = ['R', 'E', 'S', 'E', 'T'] then plain .reset
  else if mnemonic = ['W', 'I', 'P', 'E'] then plain .wipe
  else if mnemonic = ['U', 'P', 'D', 'A', 'T', 'E'] then
    (readByte operands).map fun b => some (.command (.update b))
  else if mnemonic = ['U', 'P', 'D', 'A', 'T', 'E', '_', 'B', 'Y', 'T', 'E', 'S'] then
    (readBytes operands).map fun bs => some (.updateBytes bs)
  else if mnemonic = ['U', 'P', 'D', 'A', 'T', 'E', '_', 'S', 'T', 'R'] then
    (readText rest).map fun bs => some (.updateStr bs)
  else if mnemonic = ['H', 'A', 'S', 'H'] then
    (readBytes operands).map fun bs => some (.hash bs)
  else none

/-- The command words of a line of source text (R76, R77). -/
def assembleLine (line : List Char) : Option (List Word32) :=
  (parseLine line).map fun parsed =>
    match parsed with
    | some l => l.expand.map encode
    | none => []

end Sys2Proof.Machine
end

