-- ==== Sys2Proof/Machine/Digest.lean ====
section
/-! DEFINITION. The digest as a function of the message (spec 46_finalizer.md R211, 47_commands.md
R230), without the engine's state: what the sequence of commands has to agree with. -/

namespace Sys2Proof.Machine

/-- The sub-state of stage i as a function of H (R190 to R196). -/
def stageSubState (cfg : Cfg) (H : Words5) (i : Fin 5) : Words5 :=
  let S := saltGen cfg H
  finishSubState cfg S i (Vector.ofFn fun b : Fin 10 => stageLane cfg H S i b)

/-- The five sub-states (R202). -/
def stages (cfg : Cfg) (H : Words5) : Vector Words5 5 :=
  Vector.ofFn fun i : Fin 5 => stageSubState cfg H i

/-- `fin(H)` (R211): everything after the padded block's compression, R202 to R208. -/
def fin (cfg : Cfg) (H : Words5) : Vector Byte 40 :=
  let BB := stages cfg H
  serialize (outMixD (outMixC BB (outMixB BB (outMixA H))))

/-- Byte a of the padded last block, whose message bytes are the first r of `bytes` (R200). -/
def paddedByte (bytes : Nat → Byte) (r : Nat) (a : Fin 128) : Byte :=
  if a.val < r then bytes a.val else if a.val = r then 0x80 else 0

/-- Byte n of a message. -/
def msgByte (m : List Byte) (n : Nat) : Byte := m.getD n 0

/-- H after the full blocks of a message (R230). -/
def absorbBlocks (cfg : Cfg) (m : List Byte) : Words5 :=
  (List.range (m.length / 128)).foldl
    (fun H t => compress H (parseBlock fun a => msgByte m (128 * t + a.val))) (hinit cfg)

/-- `digest(cfg, m)` in closed form (R230): n = 128q + r. -/
def digest (cfg : Cfg) (m : List Byte) : Vector Byte 40 :=
  let q := m.length / 128
  let r := m.length % 128
  fin cfg (compress (absorbBlocks cfg m)
    (parseBlock (paddedByte (fun a => msgByte m (128 * q + a)) r)))

/-- A value 0 .. 15 as a lower-case hexadecimal digit (R53). -/
def hexDigit (n : Nat) : Char := Char.ofNat (if n < 10 then 48 + n else 87 + n)

/-- The hexadecimal form of a digest: its 40 bytes in index order, two digits each (R53, R230). -/
def hexDigest (d : Vector Byte 40) : List Char :=
  d.toList.flatMap fun b => [hexDigit (b.toNat / 16), hexDigit (b.toNat % 16)]

end Sys2Proof.Machine
end

