-- ==== Sys2Proof/Safety.lean ====
section
/-! DEFINITION. What counts as a good state and a safe run (spec 10_state.md R37, 60_exceptions.md). -/

namespace Sys2Proof.Machine

/-- The context is all zero: H, BUF, BUFLEN, TOTBITS, LB, BB (R27, R36, R37 (b)). -/
def State.contextZero (s : State) : Bool :=
  s.H == zeroWords5 && s.BUF == [] && s.BUFLEN == 0 && s.TOTBITS == 0 &&
    s.LB == Vector.replicate 10 zeroLane && s.BB == Vector.replicate 5 zeroWords5

/-- The invariants of R37, which hold between commands. (a) is the type of BUFLEN. (f) is stated
without R37's proviso "as long as TOTBITS has not wrapped": since 2^61 is a multiple of 128 it holds
after a wrap too (DEDUCED, log entry 11). The canonical form of the buffer is the model's own. -/
structure State.Inv (s : State) : Prop where
  /-- the list that holds BUF is canonical (log entry 9) -/
  bufWf : s.BUF.wf = true
  /-- R37 (b) -/
  idleZero : s.ACTIVE = false → s.contextZero = true
  /-- R37 (c), lanes -/
  lanesZero : s.LB = Vector.replicate 10 zeroLane
  /-- R37 (c), sub-states -/
  subStatesZero : s.BB = Vector.replicate 5 zeroWords5
  /-- R37 (d) -/
  validIdle : s.DVALID = true → s.ACTIVE = false
  /-- R37 (e) -/
  invalidZero : s.DVALID = false → s.DIGEST = zeroDigest
  /-- R37 (f), first half -/
  totbitsBytes : s.TOTBITS.toNat % 8 = 0
  /-- R37 (f), second half -/
  buflenCounts : s.BUFLEN.val = s.TOTBITS.toNat / 8 % 128

/-- A host move the spec defines (R54, R262, D28): a reset, or a 32-bit access at a multiple of 4 in
the window. -/
def HostAction.defined : HostAction → Bool
  | .write off n _ => decide (n = 4 ∧ off % 4 = 0 ∧ off ≤ 0x3C)
  | .read off n => decide (n = 4 ∧ off % 4 = 0 ∧ off ≤ 0x3C)
  | .hardwareReset => true

/-- The host's remaining moves are all defined: a run that is never refused. -/
def State.movesDefined (s : State) : Bool := s.pending.all HostAction.defined

end Sys2Proof.Machine
end

