-- ==== Sys2Proof/Certificates/Slice0/Obligations.lean ====
section
/-! DEFINITION. The statements for the provers. Each docstring names the rules of the spec that the
statement rests on; a clause that is the model's own choice says so. -/

namespace Sys2Proof.Machine

/-- The state after hardware reset, but for the error flags and the host's side of `s` (R36: the
columns `WIPE` and `FINAL` keep the flags). -/
def State.wiped (s : State) : State :=
  { State.reset with
    ERR_ILL := s.ERR_ILL, ERR_SEQ := s.ERR_SEQ, pending := s.pending, reads := s.reads }

/-- The state that `INIT` leaves (R220; R36, column `INIT`): H is Hinit, ACTIVE 1, the error flags and
the host's side those of `s`, everything else 0. -/
def State.fresh (s : State) : State :=
  { H := hinit Config.cfg
    BUF := []
    BUFLEN := 0
    TOTBITS := 0
    LB := Vector.replicate 10 (Vector.replicate 10 0)
    BB := Vector.replicate 5 (Vector.replicate 5 0)
    ACTIVE := true
    ERR_ILL := s.ERR_ILL
    ERR_SEQ := s.ERR_SEQ
    DIGEST := Vector.replicate 40 0
    DVALID := false
    pending := s.pending
    reads := s.reads }

/-- R74: one of (a), (b), (c) holds of the word. -/
abbrev illegalWord (w : Word32) : Prop :=
  w.extractLsb' 16 16 ≠ 0 ∨
  w.extractLsb' 0 8 ∉ ([0x01, 0x02, 0x03, 0x04, 0x05] : List Byte) ∨
  (w.extractLsb' 0 8 ∈ ([0x01, 0x03, 0x04, 0x05] : List Byte) ∧ w.extractLsb' 8 8 ≠ 0)

/-- The six load slots of a lane zeroed, slots 2, 3, 6, 7 kept (R179). -/
def zeroLoadSlots (L : Lane) : Lane := #v[0, 0, L[2], L[3], 0, 0, L[6], L[7], 0, 0]

/-- The moves by which the host issues a list of commands (R78). -/
def commandMoves (is : List Instr) : List HostAction := is.map fun i => commandMove (encode i)

end Sys2Proof.Machine

open Sys2Proof Sys2Proof.Machine

/-! ### Encoding -/

/-- R71 to R74: a word decodes to a command exactly when it is that (well-formed) command's encoding,
for every word and every command with every operand byte. -/
def Obligations.DecodeAgreesWithEncode : Prop :=
  ∀ (w : Word32) (i : Instr), decode w = .ok i ↔ i.wellFormed = true ∧ w = encode i

/-- R72, R73: each row of the table, by its mask and match, and the operand byte of `UPDATE`. -/
def Obligations.CommandsAreTheTableRows : Prop :=
  ∀ w : Word32,
    (decode w = .ok .init ↔ w &&& 0xFFFFFFFF = 0x00000001) ∧
    (∀ b : Byte, decode w = .ok (.update b) ↔
      w &&& 0xFFFF00FF = 0x00000002 ∧ b = w.extractLsb' 8 8) ∧
    (decode w = .ok .final ↔ w &&& 0xFFFFFFFF = 0x00000003) ∧
    (decode w = .ok .reset ↔ w &&& 0xFFFFFFFF = 0x00000004) ∧
    (decode w = .ok .wipe ↔ w &&& 0xFFFFFFFF = 0x00000005)

/-- R74, R241: which words are illegal (by the three clauses; equivalently by the rows of R72), that
there are 260 legal ones, that the zero word is illegal, that no command is a no-operation, and that
writing an illegal word to `CMD` sets `ERR_ILL` and changes nothing else, whatever the state. -/
def Obligations.IllegalWordsOnlySetErrIll : Prop :=
  (∀ w : Word32, illegalWord w ↔ ¬ ∃ i, decode w = .ok i) ∧
  (∀ w : Word32, ¬ illegalWord w ↔
    (w &&& 0xFFFFFFFF = 0x00000001 ∨ w &&& 0xFFFF00FF = 0x00000002 ∨
     w &&& 0xFFFFFFFF = 0x00000003 ∨ w &&& 0xFFFFFFFF = 0x00000004 ∨
     w &&& 0xFFFFFFFF = 0x00000005)) ∧
  (∃ ws : List Word32, ws.Nodup ∧ ws.length = 260 ∧ ∀ w, w ∈ ws ↔ ¬ illegalWord w) ∧
  illegalWord 0 ∧
  (∀ i : Instr, ∃ s t : State, exec i s = .next t ∧ t ≠ s) ∧
  ∀ (w : Word32) (s : State) (rest : List HostAction), illegalWord w →
    step (s.setPending (.write 0x00 4 w :: rest)) =
      .next { s with ERR_ILL := true, pending := rest }

/-- R76: the words of the example lines decode to their commands. -/
def Obligations.ExampleWordsDecode : Prop :=
  decode 0x00000001 = .ok .init ∧ decode 0x00006102 = .ok (.update 0x61) ∧
  decode 0x00000002 = .ok (.update 0x00) ∧ decode 0x0000FF02 = .ok (.update 0xFF) ∧
  decode 0x00000003 = .ok .final ∧ decode 0x00000004 = .ok .reset ∧ decode 0x00000005 = .ok .wipe

/-- R77: the pseudo-commands expand to the commands the rule lists, and the words of an expansion
decode back to it. -/
def Obligations.PseudoCommandsExpand : Prop :=
  ∀ bytes : List Byte,
    (AsmLine.updateBytes bytes).expand = bytes.map .update ∧
    (AsmLine.hash bytes).expand = [.init] ++ bytes.map .update ++ [.final] ∧
    ((AsmLine.hash bytes).expand.map encode).map decode = (AsmLine.hash bytes).expand.map .ok

/-! ### The step -/

/-- R60, R78: when the host's next move writes a word to `CMD` that decodes to a command, the step is
the command's meaning on the state whose next move is the one after; and `withFetchWord` places such
a move in front. -/
def Obligations.StepRunsTheDecodedCommand : Prop :=
  ∀ (s : State) (w : Word32) (i : Instr) (rest : List HostAction), decode w = .ok i →
    step (s.setPending (.write 0x00 4 w :: rest)) = exec i (s.setPending rest) ∧
    step (s.withFetchWord 32 w.toNat) = exec i s

/-- R256 (log entry 6, the model's choice of what a step is then): with no move of the host to come,
a step leaves the state as it is. -/
def Obligations.IdleStepHoldsTheState : Prop :=
  ∀ s : State, step (s.setPending []) = .next (s.setPending [])

/-- R228, R54, D28: a step with a defined move, or none, always has a next state; any other move
is a write or read, and the step with it is refused, by the name that the move's own offset gives.
(That a step with no move exists is the model's choice, log entry 6; which name an access has is log
entry 7.) -/
def Obligations.DefinedMovesNeverStop : Prop :=
  (∀ s : State, (∀ a rest, s.pending = a :: rest → a.defined = true) → ∃ t, step s = .next t) ∧
  ∀ (s : State) (a : HostAction) (rest : List HostAction), a.defined = false →
    ∃ off n, ((∃ v, a = .write off n v) ∨ a = .read off n) ∧ step (s.setPending (a :: rest)) =
      .refused (if off < 64 then .undefinedAccess off n else .outsideWindow off n)

/-- R54, D28 and 93_implementation_defined.md section 2: inside the window, an access of another width
than 4 bytes or at an offset that is not a multiple of 4 is refused; an access outside the window is
refused, and its address makes no move of the host. (The names of the two refusals, and that an access
belongs to the window when it starts in it, are the model's choice, log entry 7.) -/
def Obligations.UndefinedAccessesAreRefused : Prop :=
  ∀ (s : State) (off n : Nat) (v : Word32) (rest : List HostAction),
    (off < 64 → ¬ (n = 4 ∧ off % 4 = 0) →
      step (s.setPending (.write off n v :: rest)) = .refused (.undefinedAccess off n) ∧
      step (s.setPending (.read off n :: rest)) = .refused (.undefinedAccess off n)) ∧
    (64 ≤ off →
      step (s.setPending (.write off n v :: rest)) = .refused (.outsideWindow off n) ∧
      step (s.setPending (.read off n :: rest)) = .refused (.outsideWindow off n)) ∧
    ∀ (cfg : Cfg) (addr : Nat),
      (busWrite cfg addr n v = if cfg.BASE ≤ addr ∧ addr ≤ cfg.BASE + 0x3F then
        some (.write (addr - cfg.BASE) n v) else none) ∧
      (busRead cfg addr n = if cfg.BASE ≤ addr ∧ addr ≤ cfg.BASE + 0x3F then
        some (.read (addr - cfg.BASE) n) else none)

/-- R262, R260: hardware reset is a move legal in every state, and what it leaves does not depend on
what came before. (That the host's remaining moves and past reads stay is the model's, log entry 5.) -/
def Obligations.HardwareResetFromAnyState : Prop :=
  ∀ (s : State) (rest : List HostAction),
    step (s.setPending (.hardwareReset :: rest)) =
      .next { State.reset with pending := rest, reads := s.reads }

/-- R36 (column "Hardware reset"), R260: what reset leaves, and that every register then reads 0. -/
def Obligations.ResetStateIsZero : Prop :=
  State.reset.H = #v[0, 0, 0, 0, 0] ∧ (∀ a, State.reset.BUF.read a = 0) ∧
  State.reset.BUFLEN = 0 ∧ State.reset.TOTBITS = 0 ∧
  (∀ b k : Fin 10, State.reset.LB[b][k] = 0) ∧ (∀ i k : Fin 5, State.reset.BB[i][k] = 0) ∧
  State.reset.ACTIVE = false ∧ State.reset.ERR_ILL = false ∧ State.reset.ERR_SEQ = false ∧
  (∀ n : Fin 40, State.reset.DIGEST[n] = 0) ∧ State.reset.DVALID = false ∧
  ∀ r : WindowReg, readRegister State.reset r = 0

/-! ### The five commands -/

/-- R220: `INIT`, its word, and its effect in every state: H <- Hinit, the rest of the context,
DIGEST and DVALID zero, ACTIVE <- 1, the error flags kept. -/
def Obligations.InitStartsAFreshHash : Prop :=
  encode .init = 0x00000001 ∧ (∀ w : Word32, w &&& 0xFFFFFFFF = 0x00000001 → decode w = .ok .init) ∧
  ∀ s : State, exec .init s = .next s.fresh ∧ ∀ a, s.fresh.BUF.read a = 0

/-- R221: Hinit, the init-mix written out: each word reads the state as it stands. -/
def Obligations.HinitIsTheInPlaceInitMix : Prop :=
  ∀ cfg : Cfg,
    let g : Word := 0x9E3779B97F4A7C15
    let x0 := rotl (0x2550D73C3537E224 ^^^ cfg.RC[0]) 17 * g ^^^ 0xFED9AFDCE184D938
    let x1 := rotl (0xE4B88A74AB174325 ^^^ cfg.RC[10]) 24 * g ^^^ 0x3C6EF372D8B4F1A6
    let x2 := rotl (0xFED9AFDCE184D938 ^^^ cfg.RC[20]) 31 * g ^^^ 0x510E527F4D8C3A92
    let x3 := rotl (0x3C6EF372D8B4F1A6 ^^^ cfg.RC[30]) 38 * g ^^^ x0
    let x4 := rotl (0x510E527F4D8C3A92 ^^^ cfg.RC[40]) 45 * g ^^^ x1
    hinit cfg = #v[x0, x1, x2, x3, x4]

/-- R222: `RESET`, its word, and that it has exactly the effect of `INIT`, in both phases. -/
def Obligations.ResetHasTheEffectOfInit : Prop :=
  encode .reset = 0x00000004 ∧ (∀ w : Word32, w &&& 0xFFFFFFFF = 0x00000004 → decode w = .ok .reset) ∧
  ∀ s : State, exec .reset s = .next s.fresh ∧ exec .reset s = exec .init s

/-- R225: `WIPE`, its word, and its effect in every state: everything zero, the error flags kept; the
state is that after hardware reset except for the error flags (and the host's side). -/
def Obligations.WipeZeroesAllButTheFlags : Prop :=
  encode .wipe = 0x00000005 ∧ (∀ w : Word32, w &&& 0xFFFFFFFF = 0x00000005 → decode w = .ok .wipe) ∧
  ∀ s : State, exec .wipe s = .next s.wiped

/-- R223: `UPDATE byte`, its word, and its effect: in phase ACTIVE the byte is stored at BUFLEN and no
other byte changes, TOTBITS grows by 8, and on the 128th byte the buffer is compressed into H; nothing
else is written. In phase IDLE only `ERR_SEQ` is set. -/
def Obligations.UpdateAbsorbsOneByte : Prop :=
  (∀ b : Byte, encode (.update b) = 0x00000002 ||| (b.setWidth 32 <<< 8)) ∧
  (∀ w : Word32, w &&& 0xFFFF00FF = 0x00000002 → decode w = .ok (.update (w.extractLsb' 8 8))) ∧
  (∀ (b : Byte) (s : State), s.ACTIVE = false →
    exec (.update b) s = .next { s with ERR_SEQ := true }) ∧
  ∀ (b : Byte) (s : State), s.ACTIVE = true → ∃ t, exec (.update b) s = .next t ∧
    (∀ a : Fin 128, t.BUF.read a = if a = s.BUFLEN then b else s.BUF.read a) ∧
    t.TOTBITS = s.TOTBITS + 8 ∧
    (s.BUFLEN.val < 127 → t.BUFLEN.val = s.BUFLEN.val + 1 ∧ t.H = s.H) ∧
    (s.BUFLEN.val = 127 → t.BUFLEN = 0 ∧
      t.H = compress s.H (parseBlock fun a => if a = s.BUFLEN then b else s.BUF.read a)) ∧
    t.LB = s.LB ∧ t.BB = s.BB ∧ t.DIGEST = s.DIGEST ∧ t.DVALID = s.DVALID ∧
    t.ACTIVE = s.ACTIVE ∧ t.ERR_ILL = s.ERR_ILL ∧ t.ERR_SEQ = s.ERR_SEQ ∧
    t.pending = s.pending ∧ t.reads = s.reads

/-- R224, R200 to R209: `FINAL`, its word, and its effect in phase ACTIVE: the context and ACTIVE zero,
the error flags kept, DVALID set, and DIGEST the function `fin` of H after the padded block. In phase
IDLE only `ERR_SEQ` is set. -/
def Obligations.FinalWritesTheDigest : Prop :=
  encode .final = 0x00000003 ∧ (∀ w : Word32, w &&& 0xFFFFFFFF = 0x00000003 → decode w = .ok .final) ∧
  (∀ s : State, s.ACTIVE = false → exec .final s = .next { s with ERR_SEQ := true }) ∧
  ∀ s : State, s.ACTIVE = true → exec .final s = .next
    { s.wiped with
      DVALID := true
      DIGEST := fin Config.cfg (compress s.H (parseBlock fun a =>
        if a < s.BUFLEN then s.BUF.read a else if a = s.BUFLEN then 0x80 else 0)) }

/-- R242: `UPDATE` or `FINAL` while `ACTIVE = 0` sets `ERR_SEQ` and changes nothing else; in
particular an `UPDATE` or a second `FINAL` after `FINAL`, or after `WIPE`. -/
def Obligations.MisuseOnlySetsErrSeq : Prop :=
  (∀ (s : State) (b : Byte), s.ACTIVE = false →
    exec (.update b) s = .next { s with ERR_SEQ := true } ∧
    exec .final s = .next { s with ERR_SEQ := true }) ∧
  (∀ (s t : State) (b : Byte), (exec .final s = .next t ∨ exec .wipe s = .next t) →
    exec (.update b) t = .next { t with ERR_SEQ := true } ∧
    exec .final t = .next { t with ERR_SEQ := true })

/-- R15, R228: every command has a next state in every state; it leaves the host's side alone. -/
def Obligations.EveryCommandCompletes : Prop :=
  ∀ (i : Instr) (s : State),
    ∃ t, exec i s = .next t ∧ t.pending = s.pending ∧ t.reads = s.reads ∧ t.ERR_ILL = s.ERR_ILL

/-- R229: the phase after each command, with what it does to DVALID and the error flag ERR_SEQ. -/
def Obligations.PhaseTransitions : Prop :=
  ∀ (s t : State) (b : Byte),
    (exec .init s = .next t ∨ exec .reset s = .next t →
      t.ACTIVE = true ∧ t.DVALID = false ∧ t.ERR_SEQ = s.ERR_SEQ) ∧
    (exec (.update b) s = .next t → t.ACTIVE = s.ACTIVE ∧ t.DVALID = s.DVALID ∧
      t.ERR_SEQ = (s.ERR_SEQ || !s.ACTIVE)) ∧
    (exec .final s = .next t → t.ACTIVE = false ∧ t.DVALID = (s.ACTIVE || s.DVALID) ∧
      t.ERR_SEQ = (s.ERR_SEQ || !s.ACTIVE)) ∧
    (exec .wipe s = .next t → t.ACTIVE = false ∧ t.DVALID = false ∧ t.ERR_SEQ = s.ERR_SEQ)

/-! ### Errors -/

/-- R243: legality is checked before phase. An illegal word, `OP` 0x02 and 0x03 among them, sets
`ERR_ILL` only; a legal one never sets it. -/
def Obligations.LegalityIsCheckedBeforePhase : Prop :=
  illegalWord 0x00010002 ∧ illegalWord 0x00000103 ∧
  ∀ (w : Word32) (s : State), ∃ t, issueCommand w s = .next t ∧
    (illegalWord w → t = { s with ERR_ILL := true }) ∧
    (¬ illegalWord w → t.ERR_ILL = s.ERR_ILL)

/-- R244, R260: a set error flag stays set through every step but a hardware reset, which clears
both. -/
def Obligations.ErrorFlagsAreSticky : Prop :=
  (∀ s t : State, step s = .next t → (∀ rest, s.pending ≠ .hardwareReset :: rest) →
    (s.ERR_ILL = true → t.ERR_ILL = true) ∧ (s.ERR_SEQ = true → t.ERR_SEQ = true)) ∧
  ∀ (s : State) (rest : List HostAction), ∃ t,
    step (s.setPending (.hardwareReset :: rest)) = .next t ∧ t.ERR_ILL = false ∧ t.ERR_SEQ = false

/-- R244: a set flag changes the behaviour of no later command: on two states that differ in the
error flags only, every command gives states that differ in the error flags only. -/
def Obligations.ErrorFlagsChangeNoCommand : Prop :=
  ∀ (i : Instr) (s : State) (ill seq : Bool), ∃ t u,
    exec i s = .next t ∧ exec i { s with ERR_ILL := ill, ERR_SEQ := seq } = .next u ∧
    u = { t with ERR_ILL := u.ERR_ILL, ERR_SEQ := u.ERR_SEQ }

/-! ### The register window -/

/-- R30: the `STATUS` register as a number: each flag at its bit, BUFLEN in bits 14:8, every other
bit 0. -/
def Obligations.StatusRegisterLayout : Prop :=
  ∀ s : State, (readRegister s .status).toNat =
    s.ACTIVE.toNat + 2 * s.DVALID.toNat + 4 * s.ERR_SEQ.toNat + 8 * s.ERR_ILL.toNat +
      256 * s.BUFLEN.val

/-- R30, R56, R57, R226: what a read at each offset of the window returns, and that it changes
nothing else. (That the values read are collected in the state is the model's, log entry 5.) -/
def Obligations.ReadsReturnTheRegisters : Prop :=
  ∀ (s : State) (rest : List HostAction),
    let returns (off : Nat) (v : Word32) : Prop :=
      step (s.setPending (.read off 4 :: rest)) =
        .next { s with pending := rest, reads := s.reads ++ [v] }
    returns 0x00 0 ∧ returns 0x04 (statusWord s) ∧
    returns 0x08 (BitVec.ofNat 32 s.TOTBITS.toNat) ∧
    returns 0x0C (BitVec.ofNat 32 (s.TOTBITS.toNat / 2 ^ 32)) ∧
    (∀ j : Fin 10, returns (0x10 + 4 * j.val)
      (BitVec.ofNat 32 (s.DIGEST[4 * j.val].toNat + 2 ^ 8 * s.DIGEST[4 * j.val + 1].toNat +
        2 ^ 16 * s.DIGEST[4 * j.val + 2].toNat + 2 ^ 24 * s.DIGEST[4 * j.val + 3].toNat))) ∧
    returns 0x38 0 ∧ returns 0x3C 0

/-- R56: a 32-bit write to any other register of the window than `CMD` is ignored. -/
def Obligations.OtherWritesAreIgnored : Prop :=
  ∀ (s : State) (v : Word32) (rest : List HostAction) (k : Fin 16), k ≠ 0 →
    step (s.setPending (.write (4 * k.val) 4 v :: rest)) = .next (s.setPending rest)

/-- R55: byte n of the digest from the ten registers, and TOTBITS from its two. -/
def Obligations.WindowIsLittleEndian : Prop :=
  ∀ s : State,
    (∀ n : Fin 40, s.DIGEST[n].toNat =
      ((readRegister s (.digestW ⟨n.val / 4, by omega⟩) >>> (8 * (n.val % 4))) &&& 0xFF).toNat) ∧
    s.TOTBITS.toNat =
      (readRegister s .totbitsLo).toNat + 2 ^ 32 * (readRegister s .totbitsHi).toNat

/-- R58: no register shows H, BUF, LB or BB: states that agree on the rest read alike. -/
def Obligations.ReadsCannotSeeTheContext : Prop :=
  ∀ (s : State) (h : Words5) (m : Memory) (lb : Vector Lane 10) (bb : Vector Words5 5)
    (off n : Nat) (v : Word32),
    (step (s.setPending [.read off n]) = .next { s with pending := [], reads := s.reads ++ [v] } ↔
     step ({ s with H := h, BUF := m, LB := lb, BB := bb }.setPending [.read off n]) =
       .next { s with H := h, BUF := m, LB := lb, BB := bb, pending := [], reads := s.reads ++ [v] })

/-! ### Word primitives -/

/-- R105: right rotation, by shifts and as a left rotation. -/
def Obligations.RightRotationIsLeftRotation : Prop :=
  (∀ x : Word, rotr x 0 = x ∧ rotl x 0 = x) ∧
  (∀ (x : Word) (n : Count), n ≠ 0 →
    rotr x n = (x >>> n.val) ||| (x <<< (64 - n.val)) ∧ rotr x n = rotl x (count (64 - n.val))) ∧
  rotr 0x0000000000000003 1 = 0x8000000000000001

/-- R104, R105: the two rotations by one count undo each other. -/
def Obligations.RotationsUndoEachOther : Prop :=
  ∀ (x : Word) (n : Count), rotr (rotl x n) n = x ∧ rotl (rotr x n) n = x

/-- R113: the three readings of step six of `gamma_mix` are one word. -/
def Obligations.GammaRotationReadingsAgree : Prop :=
  ∀ r : Word, rotl r 19 ||| rotr r 45 = rotl r 19 ∧ (r <<< 19) ||| (r >>> 45) = rotl r 19

/-- R107, R108: the value of eight bytes, little-endian, that the two converters are inverse, and the
examples of the two rules. -/
def Obligations.ByteConvertersAreInverse : Prop :=
  (∀ b : Fin 8 → Byte, (bytesToU64 b).toNat =
    (b 0).toNat + 2 ^ 8 * (b 1).toNat + 2 ^ 16 * (b 2).toNat + 2 ^ 24 * (b 3).toNat +
    2 ^ 32 * (b 4).toNat + 2 ^ 40 * (b 5).toNat + 2 ^ 48 * (b 6).toNat + 2 ^ 56 * (b 7).toNat) ∧
  (∀ (w : Word) (k : Fin 8), (u64ToBytes w k).toNat = ((w >>> (8 * k.val)) &&& 0xFF).toNat) ∧
  (∀ w : Word, bytesToU64 (u64ToBytes w) = w) ∧
  (∀ b : Fin 8 → Byte, u64ToBytes (bytesToU64 b) = b) ∧
  bytesToU64 (fun k => BitVec.ofNat 8 (k.val + 1)) = 0x0807060504030201 ∧
  List.ofFn (u64ToBytes 0x0123456789ABCDEF) =
    [0xEF, 0xCD, 0xAB, 0x89, 0x67, 0x45, 0x23, 0x01]

/-- R111: the permutation convention and the six patterns of the table. -/
def Obligations.PermutePatterns : Prop :=
  ∀ V : Vec4,
    (∀ (pat : Byte) (d : Fin 4),
      (permute V pat).get d = V.get (Fin.ofNat 4 ((pat.toNat >>> (2 * d.val)) &&& 3))) ∧
    permute V 0x4E = ⟨V.v2, V.v3, V.v0, V.v1⟩ ∧ permute V 0xB1 = ⟨V.v1, V.v0, V.v3, V.v2⟩ ∧
    permute V 0x00 = ⟨V.v0, V.v0, V.v0, V.v0⟩ ∧ permute V 0x55 = ⟨V.v1, V.v1, V.v1, V.v1⟩ ∧
    permute V 0xAA = ⟨V.v2, V.v2, V.v2, V.v2⟩ ∧ permute V 0xFF = ⟨V.v3, V.v3, V.v3, V.v3⟩

/-! ### Compressor and parser -/

/-- R52: the parsed words by value, byte 8j the least significant, and the rule's example. -/
def Obligations.BlockParseIsLittleEndian : Prop :=
  (∀ (bytes : Fin 128 → Byte) (j : Fin 16), (parseBlock bytes)[j].toNat =
    ∑ k : Fin 8, 2 ^ (8 * k.val) * (bytes ⟨8 * j.val + k.val, by omega⟩).toNat) ∧
  (parseBlock fun n => BitVec.ofNat 8 n.val)[0] = 0x0706050403020100 ∧
  (parseBlock fun n => BitVec.ofNat 8 n.val)[15] = 0x7F7E7D7C7B7A7978

/-- R142: which neighbours each iteration reads: h0 .. h4 are the new words. -/
def Obligations.CompressReadsTheStateAsItStands : Prop :=
  ∀ (H : Words5) (B : Block),
    let h0 := compressWord H[0] B[0] B[5] B[10] H[1] H[4]
    let h1 := compressWord H[1] B[1] B[6] B[11] H[2] h0
    let h2 := compressWord H[2] B[2] B[7] B[12] H[3] h1
    let h3 := compressWord H[3] B[3] B[8] B[13] H[4] h2
    let h4 := compressWord H[4] B[4] B[9] B[14] h0 h3
    compress H B = #v[h0, h1, h2, h3, h4]

/-- R143: block word B[15] has no effect on H. -/
def Obligations.CompressIgnoresTheLastWord : Prop :=
  ∀ (H : Words5) (B : Block) (v : Word), compress H (B.set 15 v) = compress H B

/-! ### Salt generator -/

/-- R157 (b), (c), (d): the salt depends on H[1..4], SEED[1..7] and the first counter value only. -/
def Obligations.SaltDependsOnlyOn : Prop :=
  ∀ (cfg cfg' : Cfg) (H H' : Words5),
    (∀ k : Fin 5, k ≠ 0 → H[k] = H'[k]) →
    (∀ j : Fin 32, 1 ≤ j.val → j.val ≤ 7 → cfg.SEED[j] = cfg'.SEED[j]) →
    cfg.SALT_COUNTER_INIT = cfg'.SALT_COUNTER_INIT →
    saltGen cfg H = saltGen cfg' H'

/-- R153: the counter after r rounds, which round r adds, whatever the work array. -/
def Obligations.SaltCounterAdvancesByRound : Prop :=
  ∀ (s : SaltArray) (c : Word) (r : Nat),
    ((List.range r).foldl saltRound (s, c)).2 = c + BitVec.ofNat 64 r * 0x7C5F8E4D3B2A6917

/-! ### LITTLE-box -/

/-- R177: the kernel leaves slots 0, 1, 4, 5 and 8 of all four lanes 0, for every input. -/
def Obligations.KernelZeroesTheLoadSlots : Prop :=
  ∀ (cfg : Cfg) (L : Group) (s : Word) (r0 : Nat) (full : Bool) (k : Fin 10),
    k ∈ ([0, 1, 4, 5, 8] : List (Fin 10)) →
    let K := kernel4 cfg L s r0 full
    K.l0[k] = 0 ∧ K.l1[k] = 0 ∧ K.l2[k] = 0 ∧ K.l3[k] = 0

/-- R178: HXOR of every vector is 0, so slot 9 of every lane is 0 after the store-back and stays 0
after the cross-lane mix. -/
def Obligations.HxorVanishes : Prop :=
  (∀ V : Vec4, hxor V = 0) ∧
  (∀ (L : Group) (V : LoadVectors),
    let K := storeBack L V
    K.l0[9] = 0 ∧ K.l1[9] = 0 ∧ K.l2[9] = 0 ∧ K.l3[9] = 0 ∧
    (crossLaneMix K).l0[9] = 0 ∧ (crossLaneMix K).l1[9] = 0 ∧
    (crossLaneMix K).l2[9] = 0 ∧ (crossLaneMix K).l3[9] = 0)

/-- R179: the executor on a batch of one to four lanes zeroes the six load slots of every lane and
keeps the other four, for every salt word, round base and table. (R166 gives batches of one to four
lanes; that the empty batch has the empty result is the model's choice, log entry 14.) -/
def Obligations.LittleBoxLaw : Prop :=
  ∀ (cfg : Cfg) (lanes : List Lane) (s : Word) (r0 : Nat), lanes.length ≤ 4 →
    littleBox cfg lanes s r0 = some (lanes.map zeroLoadSlots)

/-! ### BIG-box -/

/-- R190, R197: what a stage writes, and that it writes nothing else. -/
def Obligations.BigBoxWritesLanesAndItsSubState : Prop :=
  ∀ (cfg : Cfg) (s : State) (i : Fin 5),
    let t := bigBox cfg s i
    t = { s with LB := t.LB, BB := t.BB } ∧
    (∀ b : Fin 10, t.LB[b] = stageLane cfg s.H (saltGen cfg s.H) i b) ∧
    (∀ j : Fin 5, t.BB[j] = if j = i then stageSubState cfg s.H i else s.BB[j])

/-- R156, R197, R202: the five stages see one H and one salt: the sub-states they leave are functions
of the H before them, and H is unchanged. -/
def Obligations.StagesShareOneHashState : Prop :=
  ∀ (cfg : Cfg) (s : State),
    (runStages cfg s).H = s.H ∧ (runStages cfg s).BB = stages cfg s.H ∧
    ∀ b : Fin 10, (runStages cfg s).LB[b] = stageLane cfg s.H (saltGen cfg s.H) 4 b

/-- R198: the closed form of a stage: the stored lanes and the five words of the sub-state; and no
sub-state depends on H[0]. -/
def Obligations.StageClosedForm : Prop :=
  ∀ (cfg : Cfg) (H : Words5) (i : Fin 5),
    let S := saltGen cfg H
    let k : Word := BitVec.ofNat 64 (i.val * 2000 + 1000)
    let f1 : Word := (List.range 10).foldl (fun acc _ => (acc ^^^ (H[2] ^^^ S[2])) + (H[3] ^^^ S[3])) 0
    let f3 : Word := (List.range 10).foldl
      (fun acc b => (acc ^^^ (H[1] ^^^ rc cfg (10 * b + 1))) + (H[2] ^^^ rc cfg (10 * b + 2))) 0
    (∀ b : Fin 10, stageLane cfg H S i b =
      (#v[0, 0, H[2] ^^^ S[2], H[3] ^^^ S[3], 0, 0, H[1] ^^^ rc cfg (10 * b.val + 1),
          H[2] ^^^ rc cfg (10 * b.val + 2), 0, 0] : Lane)) ∧
    stageSubState cfg H i =
      #v[gammaMix 0 S[0] (rc cfg (i.val * 100)) k, gammaMix f1 S[1] (rc cfg (i.val * 100 + 1)) k,
         gammaMix 0 S[2] (rc cfg (i.val * 100 + 2)) k, gammaMix f3 S[3] (rc cfg (i.val * 100 + 3)) k,
         gammaMix 0 S[4] (rc cfg (i.val * 100 + 4)) k] ∧
    ∀ v : Word, stageSubState cfg (H.set 0 v) i = stageSubState cfg H i

/-! ### Finalizer -/

/-- R200: the padded buffer byte by byte, and that padding writes nothing else. -/
def Obligations.PaddingFillsTheBlock : Prop :=
  ∀ s : State,
    (∀ a : Fin 128, (padBuffer s).BUF.read a =
      if a < s.BUFLEN then s.BUF.read a else if a = s.BUFLEN then 0x80 else 0x00) ∧
    padBuffer s = { s with BUF := (padBuffer s).BUF }

/-- R206: output-mix C written out: rounds 0, 1, 2 with rotation counts 17, 22, 27 and sub-states 0,
1, 2. -/
def Obligations.OutputMixCRounds : Prop :=
  ∀ (BB : Vector Words5 5) (H : Words5) (i : Fin 5), (outMixC BB H)[i] =
    rotl (extraMix (rotl (extraMix (rotl (extraMix H[i] ^^^ BB[0][i]) 17) ^^^ BB[1][i]) 22)
      ^^^ BB[2][i]) 27

/-- R207: a round of output-mix D written out: the word m, and the in-place updates, of which the
last reads the new H[0]. -/
def Obligations.OutputMixDRoundIsInPlace : Prop :=
  ∀ H : Words5,
    let g : Word := 0x9E3779B97F4A7C15
    let m0 := rotl H[0] 17 ^^^ H[2]
    let m1 := rotl (m0 ^^^ H[1]) 17 ^^^ H[3]
    let m2 := rotl (m1 ^^^ H[2]) 17 ^^^ H[4]
    let m3 := rotl (m2 ^^^ H[3]) 17 ^^^ H[0]
    let m := rotl (m3 ^^^ H[4]) 17 ^^^ H[1]
    let h0 := rotr ((H[0] ^^^ m) * g ^^^ (H[1] >>> 3)) 23
    let h1 := rotr ((H[1] ^^^ rotl m 13) * g ^^^ (H[2] >>> 10)) 28
    let h2 := rotr ((H[2] ^^^ rotl m 26) * g ^^^ (H[3] >>> 17)) 33
    let h3 := rotr ((H[3] ^^^ rotl m 39) * g ^^^ (H[4] >>> 24)) 38
    let h4 := rotr ((H[4] ^^^ rotl m 52) * g ^^^ (h0 >>> 31)) 43
    outMixDRound H = #v[h0, h1, h2, h3, h4]

/-- R53: byte 8i + k of the digest, its hexadecimal form of 80 lower-case digits, two a byte in index
order, and the rule's example. -/
def Obligations.DigestSerialisation : Prop :=
  (∀ (H : Words5) (i : Fin 5) (k : Fin 8),
    ((serialize H)[8 * i.val + k.val]).toNat = ((H[i] >>> (8 * k.val)) &&& 0xFF).toNat) ∧
  (∀ d : Vector Byte 40, (hexDigest d).length = 80 ∧
    (∀ c ∈ hexDigest d, ('0' ≤ c ∧ c ≤ '9') ∨ ('a' ≤ c ∧ c ≤ 'f')) ∧
    ∀ n : Fin 40, ((hexDigest d).drop (2 * n.val)).take 2 =
      [hexDigit (d[n].toNat / 16), hexDigit (d[n].toNat % 16)]) ∧
  ∀ H : Words5, H[0] = 0x0123456789ABCDEF →
    ((serialize H).toList.take 8) = [0xEF, 0xCD, 0xAB, 0x89, 0x67, 0x45, 0x23, 0x01] ∧
    (hexDigest (serialize H)).take 16 =
      ['e', 'f', 'c', 'd', 'a', 'b', '8', '9', '6', '7', '4', '5', '2', '3', '0', '1']

/-! ### Whole-machine rules -/

/-- R37: the invariant holds at reset. -/
def Obligations.InvariantHoldsAtReset : Prop := State.reset.Inv

/-- R37: from every state that meets the invariant, a step that has a next state gives one that meets
it. (The canonical form of the list that holds BUF, a clause of the invariant, is the model's own, log
entry 9; the clause on BUFLEN without R37's proviso is DEDUCED, log entry 11.) -/
def Obligations.StepKeepsTheInvariant : Prop :=
  ∀ s t : State, s.Inv → step s = .next t → t.Inv

/-- R24, R223, R227: after a run of `UPDATE` commands, one per byte, TOTBITS has grown by 8 for each
byte, wrapping, BUFLEN counts the bytes modulo 128, and the engine is still ACTIVE. -/
def Obligations.UpdatesCountTheMessage : Prop :=
  ∀ (s : State) (m : List Byte) (rest : List HostAction), s.ACTIVE = true →
    ∃ t, Sys2Proof.core.run m.length (s.setPending (commandMoves (m.map .update) ++ rest)) = .next t ∧
      t.TOTBITS = s.TOTBITS + BitVec.ofNat 64 (8 * m.length) ∧
      t.BUFLEN.val = (s.BUFLEN.val + m.length) % 128 ∧ t.ACTIVE = true ∧ t.pending = rest

/-- R230: from any state, the commands `INIT`, one `UPDATE` per byte of the message, `FINAL` leave the
digest of the message in DIGEST, valid, and the context zero. -/
def Obligations.HashingGivesTheDigest : Prop :=
  ∀ (s : State) (m : List Byte) (rest : List HostAction),
    Sys2Proof.core.run (m.length + 2) (s.setPending (commandMoves (hashCommands m) ++ rest)) =
      .next { (s.setPending rest).wiped with DIGEST := digest Config.cfg m, DVALID := true }

/-- R22, R24, R211: `FINAL` gives the same state on any two active states with the same H, BUFLEN, live
bytes, error flags and host's side: stale bytes and TOTBITS have no effect. -/
def Obligations.DigestIgnoresStaleBytesAndTotbits : Prop :=
  ∀ s u : State, s.ACTIVE = true → u.ACTIVE = true → s.H = u.H → s.BUFLEN = u.BUFLEN →
    (∀ a : Fin 128, a < s.BUFLEN → s.BUF.read a = u.BUF.read a) →
    s.ERR_ILL = u.ERR_ILL → s.ERR_SEQ = u.ERR_SEQ → s.pending = u.pending → s.reads = u.reads →
    exec .final s = exec .final u

/-- R220, R225, R269: what `INIT`, `RESET` and `WIPE` leave does not depend on the context, the digest
or the phase before. -/
def Obligations.ZeroisationForgetsTheMessage : Prop :=
  ∀ s u : State, s.ERR_ILL = u.ERR_ILL → s.ERR_SEQ = u.ERR_SEQ → s.pending = u.pending →
    s.reads = u.reads →
    exec .init s = exec .init u ∧ exec .reset s = exec .reset u ∧ exec .wipe s = exec .wipe u

/-- R212: a message whose length is 120 to 126 modulo 128 and the same message with one zero byte more
have the same digest, under every configuration. -/
def Obligations.TrailingZeroByteCollides : Prop :=
  ∀ (cfg : Cfg) (m : List Byte), 120 ≤ m.length % 128 → m.length % 128 ≤ 126 →
    digest cfg (m ++ [0x00]) = digest cfg m
end

