-- ==== Sys2Proof/Laws/Memory.lean ====
section
/-! SUPPORT. The carry buffer as byte memory: what a read sees after a write, that every operation
keeps the canonical form, and that canonical memories with equal bytes are equal lists. -/

namespace Sys2Proof.Machine

@[simp] theorem Memory.read_nil (a : Fin 128) : Memory.read [] a = 0 := rfl

theorem Memory.read_cons (c : Host.Cell) (m : Memory) (a : Fin 128) :
    Memory.read (c :: m) a = if c.1 = a.val then c.2 else Memory.read m a := rfl

theorem Memory.read_erase (m : Memory) (a b : Fin 128) :
    (m.erase a).read b = if b = a then 0 else m.read b := by
  induction m with
  | nil => simp [Memory.erase]
  | cons c m ih =>
    unfold Memory.erase at ih ⊢
    by_cases hc : c.1 = a.val
    · rw [List.filter_cons_of_neg (by simp [hc]), ih, Memory.read_cons]
      by_cases hb : b = a
      · simp [hb]
      · have hab : ¬ a.val = b.val := fun h => hb (Fin.ext h.symm)
        simp [hb, hc, hab]
    · rw [List.filter_cons_of_pos (by simp [hc]), Memory.read_cons, ih, Memory.read_cons]
      by_cases hb : b = a
      · simp [hb, hc]
      · simp [hb]

theorem Memory.read_insert (m : Memory) (a b : Fin 128) (v : Byte) :
    (m.insert a v).read b = if b = a then v else m.read b := by
  have hne : ∀ {x : Fin 128}, ¬ x = a → ¬ a.val = x.val := fun h e => h (Fin.ext e.symm)
  induction m with
  | nil => by_cases hb : b = a <;> simp [Memory.insert, Memory.read_cons, hb, hne]
  | cons c m ih =>
    obtain ⟨k, w⟩ := c
    unfold Memory.insert
    split
    · by_cases hb : b = a <;> simp [Memory.read_cons, hb, hne]
    · split
      · by_cases hb : b = a <;> simp_all [Memory.read_cons]
      · rw [Memory.read_cons, ih, Memory.read_cons]
        by_cases hb : b = a
        · have : ¬ k = a.val := fun h => by simp_all
          simp [hb, this]
        · simp [hb]

/-- A read after a write: the written byte at its address, the old byte everywhere else. -/
@[simp] theorem Memory.read_write (m : Memory) (a b : Fin 128) (v : Byte) :
    (m.write a v).read b = if b = a then v else m.read b := by
  unfold Memory.write
  split
  · next h => rw [Memory.read_erase, h]; rfl
  · exact Memory.read_insert m a b v

/-! ### The canonical form -/

theorem Memory.wf_iff (m : Memory) :
    m.wf = true ↔ m.Pairwise (fun c d => c.1 < d.1) ∧ ∀ c ∈ m, c.1 < 128 ∧ c.2 ≠ 0 := by
  simp [Memory.wf, Memory.unlisted]

@[simp] theorem Memory.wf_nil : Memory.wf [] = true := by decide

theorem Memory.wf_erase {m : Memory} (h : m.wf = true) (a : Fin 128) : (m.erase a).wf = true := by
  rw [Memory.wf_iff] at h ⊢
  exact ⟨h.1.sublist List.filter_sublist, fun c hc => h.2 c (List.mem_of_mem_filter hc)⟩

theorem Memory.mem_insert {m : Memory} {a : Fin 128} {v : Byte} {c : Host.Cell}
    (h : c ∈ m.insert a v) : c = (a.val, v) ∨ c ∈ m := by
  induction m with
  | nil => simpa [Memory.insert] using h
  | cons d m ih =>
    obtain ⟨k, w⟩ := d
    unfold Memory.insert at h
    split at h
    · simpa using h
    · split at h
      · rcases List.mem_cons.1 h with h | h
        · exact .inl h
        · exact .inr (List.mem_cons_of_mem _ h)
      · rcases List.mem_cons.1 h with h | h
        · exact .inr (h ▸ List.mem_cons_self)
        · exact (ih h).imp id (List.mem_cons_of_mem _)

theorem Memory.wf_insert {m : Memory} (h : m.wf = true) (a : Fin 128) {v : Byte} (hv : v ≠ 0) :
    (m.insert a v).wf = true := by
  rw [Memory.wf_iff] at h ⊢
  obtain ⟨hp, hall⟩ := h
  refine ⟨?_, fun c hc => (Memory.mem_insert hc).elim (fun e => e ▸ ⟨a.isLt, hv⟩) (hall c)⟩
  clear hall
  induction m with
  | nil => simp [Memory.insert]
  | cons d m ih =>
    obtain ⟨k, w⟩ := d
    obtain ⟨hd, hm⟩ := List.pairwise_cons.1 hp
    unfold Memory.insert
    split
    · next hlt =>
      refine List.pairwise_cons.2 ⟨fun c hc => ?_, hp⟩
      rcases List.mem_cons.1 hc with rfl | hc
      · exact hlt
      · exact lt_trans hlt (hd c hc)
    · split
      · next heq => exact List.pairwise_cons.2 ⟨fun c hc => by simpa [heq] using hd c hc, hm⟩
      · refine List.pairwise_cons.2 ⟨fun c hc => ?_, ih hm⟩
        rcases Memory.mem_insert hc with rfl | hc
        · show k < a.val
          omega
        · exact hd c hc

/-- A write keeps the canonical form. -/
theorem Memory.wf_write {m : Memory} (h : m.wf = true) (a : Fin 128) (v : Byte) :
    (m.write a v).wf = true := by
  unfold Memory.write
  split
  · exact Memory.wf_erase h a
  · next hv => exact Memory.wf_insert h a hv

/-- The buffer of the reset state has the canonical form. -/
theorem Memory.wf_reset : State.reset.BUF.wf = true := Memory.wf_nil

/-- Below every listed address nothing is listed. -/
theorem Memory.read_of_lt {m : Memory} {a : Fin 128} (h : ∀ c ∈ m, a.val < c.1) : m.read a = 0 := by
  induction m with
  | nil => rfl
  | cons c m ih =>
    have hc := h c List.mem_cons_self
    rw [Memory.read_cons, if_neg (by omega), ih fun d hd => h d (List.mem_cons_of_mem _ hd)]

/-- Canonical memories that read alike are equal. -/
theorem Memory.ext_of_wf {m n : Memory} (hm : m.wf = true) (hn : n.wf = true)
    (h : ∀ a : Fin 128, m.read a = n.read a) : m = n := by
  rw [Memory.wf_iff] at hm hn
  obtain ⟨pm, am⟩ := hm
  obtain ⟨pn, an⟩ := hn
  have first : ∀ {c : Host.Cell} {q : Memory}, (c :: q).Pairwise (fun c d => c.1 < d.1) →
      ∀ d ∈ q, c.1 < d.1 := fun hp => (List.pairwise_cons.1 hp).1
  induction m generalizing n with
  | nil =>
    cases n with
    | nil => rfl
    | cons d n =>
      obtain ⟨hd, hv⟩ := an d List.mem_cons_self
      have := h ⟨d.1, hd⟩
      rw [Memory.read_cons, if_pos rfl] at this
      exact absurd this.symm hv
  | cons c m ih =>
    obtain ⟨hc, hcv⟩ := am c List.mem_cons_self
    cases n with
    | nil =>
      have := h ⟨c.1, hc⟩
      rw [Memory.read_cons, if_pos rfl] at this
      exact absurd this hcv
    | cons d n =>
      obtain ⟨hd, hdv⟩ := an d List.mem_cons_self
      have hcd : c.1 = d.1 := by
        rcases lt_trichotomy c.1 d.1 with hlt | heq | hgt
        · have := h ⟨c.1, hc⟩
          rw [Memory.read_cons, if_pos rfl, Memory.read_of_lt] at this
          · exact absurd this hcv
          · intro e he
            rcases List.mem_cons.1 he with rfl | he
            · exact hlt
            · exact lt_trans hlt (first pn e he)
        · exact heq
        · have := h ⟨d.1, hd⟩
          rw [Memory.read_cons d, if_pos rfl, Memory.read_of_lt] at this
          · exact absurd this.symm hdv
          · intro e he
            rcases List.mem_cons.1 he with rfl | he
            · exact hgt
            · exact lt_trans hgt (first pm e he)
      have hv : c.2 = d.2 := by
        have := h ⟨c.1, hc⟩
        rwa [Memory.read_cons, Memory.read_cons, if_pos rfl, if_pos hcd.symm] at this
      have htail : ∀ a : Fin 128, Memory.read m a = Memory.read n a := by
        intro a
        have ha := h a
        rw [Memory.read_cons, Memory.read_cons, ← hcd] at ha
        by_cases hca : c.1 = a.val
        · rw [Memory.read_of_lt fun e he => hca ▸ first pm e he,
            Memory.read_of_lt fun e he => hca ▸ hcd ▸ first pn e he]
        · rwa [if_neg hca, if_neg hca] at ha
      have hcell : c = d := Prod.ext hcd hv
      rw [hcell, ih htail (List.pairwise_cons.1 pm).2 (fun e he => am e (List.mem_cons_of_mem _ he))
        (List.pairwise_cons.1 pn).2 fun e he => an e (List.mem_cons_of_mem _ he)]

end Sys2Proof.Machine
end

