-- ==== Sys2Proof/Laws/State.lean ====
section
/-! SUPPORT. The small lemmas of the named state updates: one per field per update, each true by rfl.
The proofs are written `(rfl)`, so that simp rewrites with the lemma instead of by definitional
equality: on a large state the kernel would otherwise try to evaluate it. -/

namespace Sys2Proof.Machine

variable (s : State)

/-! ### `State.setH` -/

@[simp] theorem State.setH_H (h : Words5) : (s.setH h).H = h := (rfl)
@[simp] theorem State.setH_BUF (h : Words5) : (s.setH h).BUF = s.BUF := (rfl)
@[simp] theorem State.setH_BUFLEN (h : Words5) : (s.setH h).BUFLEN = s.BUFLEN := (rfl)
@[simp] theorem State.setH_TOTBITS (h : Words5) : (s.setH h).TOTBITS = s.TOTBITS := (rfl)
@[simp] theorem State.setH_LB (h : Words5) : (s.setH h).LB = s.LB := (rfl)
@[simp] theorem State.setH_BB (h : Words5) : (s.setH h).BB = s.BB := (rfl)
@[simp] theorem State.setH_ACTIVE (h : Words5) : (s.setH h).ACTIVE = s.ACTIVE := (rfl)
@[simp] theorem State.setH_ERR_ILL (h : Words5) : (s.setH h).ERR_ILL = s.ERR_ILL := (rfl)
@[simp] theorem State.setH_ERR_SEQ (h : Words5) : (s.setH h).ERR_SEQ = s.ERR_SEQ := (rfl)
@[simp] theorem State.setH_DIGEST (h : Words5) : (s.setH h).DIGEST = s.DIGEST := (rfl)
@[simp] theorem State.setH_DVALID (h : Words5) : (s.setH h).DVALID = s.DVALID := (rfl)
@[simp] theorem State.setH_pending (h : Words5) : (s.setH h).pending = s.pending := (rfl)
@[simp] theorem State.setH_reads (h : Words5) : (s.setH h).reads = s.reads := (rfl)

/-! ### `State.storeByte` -/

@[simp] theorem State.storeByte_H (a : Fin 128) (v : Byte) : (s.storeByte a v).H = s.H := (rfl)
@[simp] theorem State.storeByte_BUF (a : Fin 128) (v : Byte) : (s.storeByte a v).BUF = s.BUF.write a v := (rfl)
@[simp] theorem State.storeByte_BUFLEN (a : Fin 128) (v : Byte) : (s.storeByte a v).BUFLEN = s.BUFLEN := (rfl)
@[simp] theorem State.storeByte_TOTBITS (a : Fin 128) (v : Byte) : (s.storeByte a v).TOTBITS = s.TOTBITS := (rfl)
@[simp] theorem State.storeByte_LB (a : Fin 128) (v : Byte) : (s.storeByte a v).LB = s.LB := (rfl)
@[simp] theorem State.storeByte_BB (a : Fin 128) (v : Byte) : (s.storeByte a v).BB = s.BB := (rfl)
@[simp] theorem State.storeByte_ACTIVE (a : Fin 128) (v : Byte) : (s.storeByte a v).ACTIVE = s.ACTIVE := (rfl)
@[simp] theorem State.storeByte_ERR_ILL (a : Fin 128) (v : Byte) : (s.storeByte a v).ERR_ILL = s.ERR_ILL := (rfl)
@[simp] theorem State.storeByte_ERR_SEQ (a : Fin 128) (v : Byte) : (s.storeByte a v).ERR_SEQ = s.ERR_SEQ := (rfl)
@[simp] theorem State.storeByte_DIGEST (a : Fin 128) (v : Byte) : (s.storeByte a v).DIGEST = s.DIGEST := (rfl)
@[simp] theorem State.storeByte_DVALID (a : Fin 128) (v : Byte) : (s.storeByte a v).DVALID = s.DVALID := (rfl)
@[simp] theorem State.storeByte_pending (a : Fin 128) (v : Byte) : (s.storeByte a v).pending = s.pending := (rfl)
@[simp] theorem State.storeByte_reads (a : Fin 128) (v : Byte) : (s.storeByte a v).reads = s.reads := (rfl)

/-! ### `State.setBufLen` -/

@[simp] theorem State.setBufLen_H (n : Fin 128) : (s.setBufLen n).H = s.H := (rfl)
@[simp] theorem State.setBufLen_BUF (n : Fin 128) : (s.setBufLen n).BUF = s.BUF := (rfl)
@[simp] theorem State.setBufLen_BUFLEN (n : Fin 128) : (s.setBufLen n).BUFLEN = n := (rfl)
@[simp] theorem State.setBufLen_TOTBITS (n : Fin 128) : (s.setBufLen n).TOTBITS = s.TOTBITS := (rfl)
@[simp] theorem State.setBufLen_LB (n : Fin 128) : (s.setBufLen n).LB = s.LB := (rfl)
@[simp] theorem State.setBufLen_BB (n : Fin 128) : (s.setBufLen n).BB = s.BB := (rfl)
@[simp] theorem State.setBufLen_ACTIVE (n : Fin 128) : (s.setBufLen n).ACTIVE = s.ACTIVE := (rfl)
@[simp] theorem State.setBufLen_ERR_ILL (n : Fin 128) : (s.setBufLen n).ERR_ILL = s.ERR_ILL := (rfl)
@[simp] theorem State.setBufLen_ERR_SEQ (n : Fin 128) : (s.setBufLen n).ERR_SEQ = s.ERR_SEQ := (rfl)
@[simp] theorem State.setBufLen_DIGEST (n : Fin 128) : (s.setBufLen n).DIGEST = s.DIGEST := (rfl)
@[simp] theorem State.setBufLen_DVALID (n : Fin 128) : (s.setBufLen n).DVALID = s.DVALID := (rfl)
@[simp] theorem State.setBufLen_pending (n : Fin 128) : (s.setBufLen n).pending = s.pending := (rfl)
@[simp] theorem State.setBufLen_reads (n : Fin 128) : (s.setBufLen n).reads = s.reads := (rfl)

/-! ### `State.countByte` -/

@[simp] theorem State.countByte_H : s.countByte.H = s.H := (rfl)
@[simp] theorem State.countByte_BUF : s.countByte.BUF = s.BUF := (rfl)
@[simp] theorem State.countByte_BUFLEN : s.countByte.BUFLEN = s.BUFLEN := (rfl)
@[simp] theorem State.countByte_TOTBITS : s.countByte.TOTBITS = s.TOTBITS + 8 := (rfl)
@[simp] theorem State.countByte_LB : s.countByte.LB = s.LB := (rfl)
@[simp] theorem State.countByte_BB : s.countByte.BB = s.BB := (rfl)
@[simp] theorem State.countByte_ACTIVE : s.countByte.ACTIVE = s.ACTIVE := (rfl)
@[simp] theorem State.countByte_ERR_ILL : s.countByte.ERR_ILL = s.ERR_ILL := (rfl)
@[simp] theorem State.countByte_ERR_SEQ : s.countByte.ERR_SEQ = s.ERR_SEQ := (rfl)
@[simp] theorem State.countByte_DIGEST : s.countByte.DIGEST = s.DIGEST := (rfl)
@[simp] theorem State.countByte_DVALID : s.countByte.DVALID = s.DVALID := (rfl)
@[simp] theorem State.countByte_pending : s.countByte.pending = s.pending := (rfl)
@[simp] theorem State.countByte_reads : s.countByte.reads = s.reads := (rfl)

/-! ### `State.setLane` -/

@[simp] theorem State.setLane_H (b : Fin 10) (L : Lane) : (s.setLane b L).H = s.H := (rfl)
@[simp] theorem State.setLane_BUF (b : Fin 10) (L : Lane) : (s.setLane b L).BUF = s.BUF := (rfl)
@[simp] theorem State.setLane_BUFLEN (b : Fin 10) (L : Lane) : (s.setLane b L).BUFLEN = s.BUFLEN := (rfl)
@[simp] theorem State.setLane_TOTBITS (b : Fin 10) (L : Lane) : (s.setLane b L).TOTBITS = s.TOTBITS := (rfl)
@[simp] theorem State.setLane_LB (b : Fin 10) (L : Lane) : (s.setLane b L).LB = s.LB.set b L := (rfl)
@[simp] theorem State.setLane_BB (b : Fin 10) (L : Lane) : (s.setLane b L).BB = s.BB := (rfl)
@[simp] theorem State.setLane_ACTIVE (b : Fin 10) (L : Lane) : (s.setLane b L).ACTIVE = s.ACTIVE := (rfl)
@[simp] theorem State.setLane_ERR_ILL (b : Fin 10) (L : Lane) : (s.setLane b L).ERR_ILL = s.ERR_ILL := (rfl)
@[simp] theorem State.setLane_ERR_SEQ (b : Fin 10) (L : Lane) : (s.setLane b L).ERR_SEQ = s.ERR_SEQ := (rfl)
@[simp] theorem State.setLane_DIGEST (b : Fin 10) (L : Lane) : (s.setLane b L).DIGEST = s.DIGEST := (rfl)
@[simp] theorem State.setLane_DVALID (b : Fin 10) (L : Lane) : (s.setLane b L).DVALID = s.DVALID := (rfl)
@[simp] theorem State.setLane_pending (b : Fin 10) (L : Lane) : (s.setLane b L).pending = s.pending := (rfl)
@[simp] theorem State.setLane_reads (b : Fin 10) (L : Lane) : (s.setLane b L).reads = s.reads := (rfl)

/-! ### `State.setSubState` -/

@[simp] theorem State.setSubState_H (i : Fin 5) (v : Words5) : (s.setSubState i v).H = s.H := (rfl)
@[simp] theorem State.setSubState_BUF (i : Fin 5) (v : Words5) : (s.setSubState i v).BUF = s.BUF := (rfl)
@[simp] theorem State.setSubState_BUFLEN (i : Fin 5) (v : Words5) : (s.setSubState i v).BUFLEN = s.BUFLEN := (rfl)
@[simp] theorem State.setSubState_TOTBITS (i : Fin 5) (v : Words5) : (s.setSubState i v).TOTBITS = s.TOTBITS := (rfl)
@[simp] theorem State.setSubState_LB (i : Fin 5) (v : Words5) : (s.setSubState i v).LB = s.LB := (rfl)
@[simp] theorem State.setSubState_BB (i : Fin 5) (v : Words5) : (s.setSubState i v).BB = s.BB.set i v := (rfl)
@[simp] theorem State.setSubState_ACTIVE (i : Fin 5) (v : Words5) : (s.setSubState i v).ACTIVE = s.ACTIVE := (rfl)
@[simp] theorem State.setSubState_ERR_ILL (i : Fin 5) (v : Words5) : (s.setSubState i v).ERR_ILL = s.ERR_ILL := (rfl)
@[simp] theorem State.setSubState_ERR_SEQ (i : Fin 5) (v : Words5) : (s.setSubState i v).ERR_SEQ = s.ERR_SEQ := (rfl)
@[simp] theorem State.setSubState_DIGEST (i : Fin 5) (v : Words5) : (s.setSubState i v).DIGEST = s.DIGEST := (rfl)
@[simp] theorem State.setSubState_DVALID (i : Fin 5) (v : Words5) : (s.setSubState i v).DVALID = s.DVALID := (rfl)
@[simp] theorem State.setSubState_pending (i : Fin 5) (v : Words5) : (s.setSubState i v).pending = s.pending := (rfl)
@[simp] theorem State.setSubState_reads (i : Fin 5) (v : Words5) : (s.setSubState i v).reads = s.reads := (rfl)

/-! ### `State.setActive` -/

@[simp] theorem State.setActive_H (b : Bool) : (s.setActive b).H = s.H := (rfl)
@[simp] theorem State.setActive_BUF (b : Bool) : (s.setActive b).BUF = s.BUF := (rfl)
@[simp] theorem State.setActive_BUFLEN (b : Bool) : (s.setActive b).BUFLEN = s.BUFLEN := (rfl)
@[simp] theorem State.setActive_TOTBITS (b : Bool) : (s.setActive b).TOTBITS = s.TOTBITS := (rfl)
@[simp] theorem State.setActive_LB (b : Bool) : (s.setActive b).LB = s.LB := (rfl)
@[simp] theorem State.setActive_BB (b : Bool) : (s.setActive b).BB = s.BB := (rfl)
@[simp] theorem State.setActive_ACTIVE (b : Bool) : (s.setActive b).ACTIVE = b := (rfl)
@[simp] theorem State.setActive_ERR_ILL (b : Bool) : (s.setActive b).ERR_ILL = s.ERR_ILL := (rfl)
@[simp] theorem State.setActive_ERR_SEQ (b : Bool) : (s.setActive b).ERR_SEQ = s.ERR_SEQ := (rfl)
@[simp] theorem State.setActive_DIGEST (b : Bool) : (s.setActive b).DIGEST = s.DIGEST := (rfl)
@[simp] theorem State.setActive_DVALID (b : Bool) : (s.setActive b).DVALID = s.DVALID := (rfl)
@[simp] theorem State.setActive_pending (b : Bool) : (s.setActive b).pending = s.pending := (rfl)
@[simp] theorem State.setActive_reads (b : Bool) : (s.setActive b).reads = s.reads := (rfl)

/-! ### `State.zeroContext` -/

@[simp] theorem State.zeroContext_H : s.zeroContext.H = zeroWords5 := (rfl)
@[simp] theorem State.zeroContext_BUF : s.zeroContext.BUF = [] := (rfl)
@[simp] theorem State.zeroContext_BUFLEN : s.zeroContext.BUFLEN = 0 := (rfl)
@[simp] theorem State.zeroContext_TOTBITS : s.zeroContext.TOTBITS = 0 := (rfl)
@[simp] theorem State.zeroContext_LB : s.zeroContext.LB = Vector.replicate 10 zeroLane := (rfl)
@[simp] theorem State.zeroContext_BB : s.zeroContext.BB = Vector.replicate 5 zeroWords5 := (rfl)
@[simp] theorem State.zeroContext_ACTIVE : s.zeroContext.ACTIVE = s.ACTIVE := (rfl)
@[simp] theorem State.zeroContext_ERR_ILL : s.zeroContext.ERR_ILL = s.ERR_ILL := (rfl)
@[simp] theorem State.zeroContext_ERR_SEQ : s.zeroContext.ERR_SEQ = s.ERR_SEQ := (rfl)
@[simp] theorem State.zeroContext_DIGEST : s.zeroContext.DIGEST = s.DIGEST := (rfl)
@[simp] theorem State.zeroContext_DVALID : s.zeroContext.DVALID = s.DVALID := (rfl)
@[simp] theorem State.zeroContext_pending : s.zeroContext.pending = s.pending := (rfl)
@[simp] theorem State.zeroContext_reads : s.zeroContext.reads = s.reads := (rfl)

/-! ### `State.setDigest` -/

@[simp] theorem State.setDigest_H (d : Vector Byte 40) : (s.setDigest d).H = s.H := (rfl)
@[simp] theorem State.setDigest_BUF (d : Vector Byte 40) : (s.setDigest d).BUF = s.BUF := (rfl)
@[simp] theorem State.setDigest_BUFLEN (d : Vector Byte 40) : (s.setDigest d).BUFLEN = s.BUFLEN := (rfl)
@[simp] theorem State.setDigest_TOTBITS (d : Vector Byte 40) : (s.setDigest d).TOTBITS = s.TOTBITS := (rfl)
@[simp] theorem State.setDigest_LB (d : Vector Byte 40) : (s.setDigest d).LB = s.LB := (rfl)
@[simp] theorem State.setDigest_BB (d : Vector Byte 40) : (s.setDigest d).BB = s.BB := (rfl)
@[simp] theorem State.setDigest_ACTIVE (d : Vector Byte 40) : (s.setDigest d).ACTIVE = s.ACTIVE := (rfl)
@[simp] theorem State.setDigest_ERR_ILL (d : Vector Byte 40) : (s.setDigest d).ERR_ILL = s.ERR_ILL := (rfl)
@[simp] theorem State.setDigest_ERR_SEQ (d : Vector Byte 40) : (s.setDigest d).ERR_SEQ = s.ERR_SEQ := (rfl)
@[simp] theorem State.setDigest_DIGEST (d : Vector Byte 40) : (s.setDigest d).DIGEST = d := (rfl)
@[simp] theorem State.setDigest_DVALID (d : Vector Byte 40) : (s.setDigest d).DVALID = true := (rfl)
@[simp] theorem State.setDigest_pending (d : Vector Byte 40) : (s.setDigest d).pending = s.pending := (rfl)
@[simp] theorem State.setDigest_reads (d : Vector Byte 40) : (s.setDigest d).reads = s.reads := (rfl)

/-! ### `State.clearDigest` -/

@[simp] theorem State.clearDigest_H : s.clearDigest.H = s.H := (rfl)
@[simp] theorem State.clearDigest_BUF : s.clearDigest.BUF = s.BUF := (rfl)
@[simp] theorem State.clearDigest_BUFLEN : s.clearDigest.BUFLEN = s.BUFLEN := (rfl)
@[simp] theorem State.clearDigest_TOTBITS : s.clearDigest.TOTBITS = s.TOTBITS := (rfl)
@[simp] theorem State.clearDigest_LB : s.clearDigest.LB = s.LB := (rfl)
@[simp] theorem State.clearDigest_BB : s.clearDigest.BB = s.BB := (rfl)
@[simp] theorem State.clearDigest_ACTIVE : s.clearDigest.ACTIVE = s.ACTIVE := (rfl)
@[simp] theorem State.clearDigest_ERR_ILL : s.clearDigest.ERR_ILL = s.ERR_ILL := (rfl)
@[simp] theorem State.clearDigest_ERR_SEQ : s.clearDigest.ERR_SEQ = s.ERR_SEQ := (rfl)
@[simp] theorem State.clearDigest_DIGEST : s.clearDigest.DIGEST = zeroDigest := (rfl)
@[simp] theorem State.clearDigest_DVALID : s.clearDigest.DVALID = false := (rfl)
@[simp] theorem State.clearDigest_pending : s.clearDigest.pending = s.pending := (rfl)
@[simp] theorem State.clearDigest_reads : s.clearDigest.reads = s.reads := (rfl)

/-! ### `State.setPending` -/

@[simp] theorem State.setPending_H (ms : List HostAction) : (s.setPending ms).H = s.H := (rfl)
@[simp] theorem State.setPending_BUF (ms : List HostAction) : (s.setPending ms).BUF = s.BUF := (rfl)
@[simp] theorem State.setPending_BUFLEN (ms : List HostAction) : (s.setPending ms).BUFLEN = s.BUFLEN := (rfl)
@[simp] theorem State.setPending_TOTBITS (ms : List HostAction) : (s.setPending ms).TOTBITS = s.TOTBITS := (rfl)
@[simp] theorem State.setPending_LB (ms : List HostAction) : (s.setPending ms).LB = s.LB := (rfl)
@[simp] theorem State.setPending_BB (ms : List HostAction) : (s.setPending ms).BB = s.BB := (rfl)
@[simp] theorem State.setPending_ACTIVE (ms : List HostAction) : (s.setPending ms).ACTIVE = s.ACTIVE := (rfl)
@[simp] theorem State.setPending_ERR_ILL (ms : List HostAction) : (s.setPending ms).ERR_ILL = s.ERR_ILL := (rfl)
@[simp] theorem State.setPending_ERR_SEQ (ms : List HostAction) : (s.setPending ms).ERR_SEQ = s.ERR_SEQ := (rfl)
@[simp] theorem State.setPending_DIGEST (ms : List HostAction) : (s.setPending ms).DIGEST = s.DIGEST := (rfl)
@[simp] theorem State.setPending_DVALID (ms : List HostAction) : (s.setPending ms).DVALID = s.DVALID := (rfl)
@[simp] theorem State.setPending_pending (ms : List HostAction) : (s.setPending ms).pending = ms := (rfl)
@[simp] theorem State.setPending_reads (ms : List HostAction) : (s.setPending ms).reads = s.reads := (rfl)

/-! ### `State.pushRead` -/

@[simp] theorem State.pushRead_H (v : Word32) : (s.pushRead v).H = s.H := (rfl)
@[simp] theorem State.pushRead_BUF (v : Word32) : (s.pushRead v).BUF = s.BUF := (rfl)
@[simp] theorem State.pushRead_BUFLEN (v : Word32) : (s.pushRead v).BUFLEN = s.BUFLEN := (rfl)
@[simp] theorem State.pushRead_TOTBITS (v : Word32) : (s.pushRead v).TOTBITS = s.TOTBITS := (rfl)
@[simp] theorem State.pushRead_LB (v : Word32) : (s.pushRead v).LB = s.LB := (rfl)
@[simp] theorem State.pushRead_BB (v : Word32) : (s.pushRead v).BB = s.BB := (rfl)
@[simp] theorem State.pushRead_ACTIVE (v : Word32) : (s.pushRead v).ACTIVE = s.ACTIVE := (rfl)
@[simp] theorem State.pushRead_ERR_ILL (v : Word32) : (s.pushRead v).ERR_ILL = s.ERR_ILL := (rfl)
@[simp] theorem State.pushRead_ERR_SEQ (v : Word32) : (s.pushRead v).ERR_SEQ = s.ERR_SEQ := (rfl)
@[simp] theorem State.pushRead_DIGEST (v : Word32) : (s.pushRead v).DIGEST = s.DIGEST := (rfl)
@[simp] theorem State.pushRead_DVALID (v : Word32) : (s.pushRead v).DVALID = s.DVALID := (rfl)
@[simp] theorem State.pushRead_pending (v : Word32) : (s.pushRead v).pending = s.pending := (rfl)
@[simp] theorem State.pushRead_reads (v : Word32) : (s.pushRead v).reads = s.reads ++ [v] := (rfl)

/-! ### `State.hardwareReset` -/

@[simp] theorem State.hardwareReset_H : s.hardwareReset.H = State.reset.H := (rfl)
@[simp] theorem State.hardwareReset_BUF : s.hardwareReset.BUF = State.reset.BUF := (rfl)
@[simp] theorem State.hardwareReset_BUFLEN : s.hardwareReset.BUFLEN = State.reset.BUFLEN := (rfl)
@[simp] theorem State.hardwareReset_TOTBITS : s.hardwareReset.TOTBITS = State.reset.TOTBITS := (rfl)
@[simp] theorem State.hardwareReset_LB : s.hardwareReset.LB = State.reset.LB := (rfl)
@[simp] theorem State.hardwareReset_BB : s.hardwareReset.BB = State.reset.BB := (rfl)
@[simp] theorem State.hardwareReset_ACTIVE : s.hardwareReset.ACTIVE = State.reset.ACTIVE := (rfl)
@[simp] theorem State.hardwareReset_ERR_ILL : s.hardwareReset.ERR_ILL = State.reset.ERR_ILL := (rfl)
@[simp] theorem State.hardwareReset_ERR_SEQ : s.hardwareReset.ERR_SEQ = State.reset.ERR_SEQ := (rfl)
@[simp] theorem State.hardwareReset_DIGEST : s.hardwareReset.DIGEST = State.reset.DIGEST := (rfl)
@[simp] theorem State.hardwareReset_DVALID : s.hardwareReset.DVALID = State.reset.DVALID := (rfl)
@[simp] theorem State.hardwareReset_pending : s.hardwareReset.pending = s.pending := (rfl)
@[simp] theorem State.hardwareReset_reads : s.hardwareReset.reads = s.reads := (rfl)

/-! ### `State.raise` -/

@[simp] theorem State.raise_illegal_H : (s.raise .illegal).H = s.H := (rfl)
@[simp] theorem State.raise_illegal_BUF : (s.raise .illegal).BUF = s.BUF := (rfl)
@[simp] theorem State.raise_illegal_BUFLEN : (s.raise .illegal).BUFLEN = s.BUFLEN := (rfl)
@[simp] theorem State.raise_illegal_TOTBITS : (s.raise .illegal).TOTBITS = s.TOTBITS := (rfl)
@[simp] theorem State.raise_illegal_LB : (s.raise .illegal).LB = s.LB := (rfl)
@[simp] theorem State.raise_illegal_BB : (s.raise .illegal).BB = s.BB := (rfl)
@[simp] theorem State.raise_illegal_ACTIVE : (s.raise .illegal).ACTIVE = s.ACTIVE := (rfl)
@[simp] theorem State.raise_illegal_ERR_ILL : (s.raise .illegal).ERR_ILL = true := (rfl)
@[simp] theorem State.raise_illegal_ERR_SEQ : (s.raise .illegal).ERR_SEQ = s.ERR_SEQ := (rfl)
@[simp] theorem State.raise_illegal_DIGEST : (s.raise .illegal).DIGEST = s.DIGEST := (rfl)
@[simp] theorem State.raise_illegal_DVALID : (s.raise .illegal).DVALID = s.DVALID := (rfl)
@[simp] theorem State.raise_illegal_pending : (s.raise .illegal).pending = s.pending := (rfl)
@[simp] theorem State.raise_illegal_reads : (s.raise .illegal).reads = s.reads := (rfl)

@[simp] theorem State.raise_sequence_H : (s.raise .sequence).H = s.H := (rfl)
@[simp] theorem State.raise_sequence_BUF : (s.raise .sequence).BUF = s.BUF := (rfl)
@[simp] theorem State.raise_sequence_BUFLEN : (s.raise .sequence).BUFLEN = s.BUFLEN := (rfl)
@[simp] theorem State.raise_sequence_TOTBITS : (s.raise .sequence).TOTBITS = s.TOTBITS := (rfl)
@[simp] theorem State.raise_sequence_LB : (s.raise .sequence).LB = s.LB := (rfl)
@[simp] theorem State.raise_sequence_BB : (s.raise .sequence).BB = s.BB := (rfl)
@[simp] theorem State.raise_sequence_ACTIVE : (s.raise .sequence).ACTIVE = s.ACTIVE := (rfl)
@[simp] theorem State.raise_sequence_ERR_ILL : (s.raise .sequence).ERR_ILL = s.ERR_ILL := (rfl)
@[simp] theorem State.raise_sequence_ERR_SEQ : (s.raise .sequence).ERR_SEQ = true := (rfl)
@[simp] theorem State.raise_sequence_DIGEST : (s.raise .sequence).DIGEST = s.DIGEST := (rfl)
@[simp] theorem State.raise_sequence_DVALID : (s.raise .sequence).DVALID = s.DVALID := (rfl)
@[simp] theorem State.raise_sequence_pending : (s.raise .sequence).pending = s.pending := (rfl)
@[simp] theorem State.raise_sequence_reads : (s.raise .sequence).reads = s.reads := (rfl)

/-! ### `State.reset` -/

@[simp] theorem State.reset_H : State.reset.H = zeroWords5 := (rfl)
@[simp] theorem State.reset_BUF : State.reset.BUF = [] := (rfl)
@[simp] theorem State.reset_BUFLEN : State.reset.BUFLEN = 0 := (rfl)
@[simp] theorem State.reset_TOTBITS : State.reset.TOTBITS = 0 := (rfl)
@[simp] theorem State.reset_LB : State.reset.LB = Vector.replicate 10 zeroLane := (rfl)
@[simp] theorem State.reset_BB : State.reset.BB = Vector.replicate 5 zeroWords5 := (rfl)
@[simp] theorem State.reset_ACTIVE : State.reset.ACTIVE = false := (rfl)
@[simp] theorem State.reset_ERR_ILL : State.reset.ERR_ILL = false := (rfl)
@[simp] theorem State.reset_ERR_SEQ : State.reset.ERR_SEQ = false := (rfl)
@[simp] theorem State.reset_DIGEST : State.reset.DIGEST = zeroDigest := (rfl)
@[simp] theorem State.reset_DVALID : State.reset.DVALID = false := (rfl)
@[simp] theorem State.reset_pending : State.reset.pending = [] := (rfl)
@[simp] theorem State.reset_reads : State.reset.reads = [] := (rfl)

/-! ### Reading the buffer -/

@[simp] theorem State.bufBytes_apply (a : Fin 128) : s.bufBytes a = s.BUF.read a := (rfl)

@[simp] theorem State.setPending_setPending (ms ns : List HostAction) :
    (s.setPending ms).setPending ns = s.setPending ns := (rfl)

theorem State.setPending_self : s.setPending s.pending = s := (rfl)

end Sys2Proof.Machine
end

