-- ==== Sys2Proof/Laws/Composite.lean ====
section
/-! SUPPORT. What the shared operations of the commands leave alone: one lemma per operation and
field it does not write, and what it writes where that is one expression. -/

namespace Sys2Proof.Machine

/-- A fold of state updates keeps a projection that each update keeps. -/
theorem foldl_proj {α β : Type} (f : State → β → State) (p : State → α)
    (h : ∀ s b, p (f s b) = p s) (l : List β) (s : State) : p (l.foldl f s) = p s := by
  induction l generalizing s with
  | nil => rfl
  | cons b l ih => rw [List.foldl_cons, ih, h]

variable (cfg : Cfg) (s : State)

/-! ### `padBuffer` -/

@[simp] theorem padBuffer_H : (padBuffer s).H = s.H :=
  foldl_proj (fun t n => State.storeByte t n 0) State.H (fun _ _ => rfl) _ _
@[simp] theorem padBuffer_BUFLEN : (padBuffer s).BUFLEN = s.BUFLEN :=
  foldl_proj (fun t n => State.storeByte t n 0) State.BUFLEN (fun _ _ => rfl) _ _
@[simp] theorem padBuffer_TOTBITS : (padBuffer s).TOTBITS = s.TOTBITS :=
  foldl_proj (fun t n => State.storeByte t n 0) State.TOTBITS (fun _ _ => rfl) _ _
@[simp] theorem padBuffer_LB : (padBuffer s).LB = s.LB :=
  foldl_proj (fun t n => State.storeByte t n 0) State.LB (fun _ _ => rfl) _ _
@[simp] theorem padBuffer_BB : (padBuffer s).BB = s.BB :=
  foldl_proj (fun t n => State.storeByte t n 0) State.BB (fun _ _ => rfl) _ _
@[simp] theorem padBuffer_ACTIVE : (padBuffer s).ACTIVE = s.ACTIVE :=
  foldl_proj (fun t n => State.storeByte t n 0) State.ACTIVE (fun _ _ => rfl) _ _
@[simp] theorem padBuffer_ERR_ILL : (padBuffer s).ERR_ILL = s.ERR_ILL :=
  foldl_proj (fun t n => State.storeByte t n 0) State.ERR_ILL (fun _ _ => rfl) _ _
@[simp] theorem padBuffer_ERR_SEQ : (padBuffer s).ERR_SEQ = s.ERR_SEQ :=
  foldl_proj (fun t n => State.storeByte t n 0) State.ERR_SEQ (fun _ _ => rfl) _ _
@[simp] theorem padBuffer_DIGEST : (padBuffer s).DIGEST = s.DIGEST :=
  foldl_proj (fun t n => State.storeByte t n 0) State.DIGEST (fun _ _ => rfl) _ _
@[simp] theorem padBuffer_DVALID : (padBuffer s).DVALID = s.DVALID :=
  foldl_proj (fun t n => State.storeByte t n 0) State.DVALID (fun _ _ => rfl) _ _
@[simp] theorem padBuffer_pending : (padBuffer s).pending = s.pending :=
  foldl_proj (fun t n => State.storeByte t n 0) State.pending (fun _ _ => rfl) _ _
@[simp] theorem padBuffer_reads : (padBuffer s).reads = s.reads :=
  foldl_proj (fun t n => State.storeByte t n 0) State.reads (fun _ _ => rfl) _ _

/-! ### `compressBuffer` -/

@[simp] theorem compressBuffer_H : (compressBuffer s).H = compress s.H (parseBlock s.bufBytes) := by
  simp [compressBuffer]
@[simp] theorem compressBuffer_BUF : (compressBuffer s).BUF = s.BUF := by
  simp [compressBuffer]
@[simp] theorem compressBuffer_BUFLEN : (compressBuffer s).BUFLEN = s.BUFLEN := by
  simp [compressBuffer]
@[simp] theorem compressBuffer_TOTBITS : (compressBuffer s).TOTBITS = s.TOTBITS := by
  simp [compressBuffer]
@[simp] theorem compressBuffer_LB : (compressBuffer s).LB = s.LB := by
  simp [compressBuffer]
@[simp] theorem compressBuffer_BB : (compressBuffer s).BB = s.BB := by
  simp [compressBuffer]
@[simp] theorem compressBuffer_ACTIVE : (compressBuffer s).ACTIVE = s.ACTIVE := by
  simp [compressBuffer]
@[simp] theorem compressBuffer_ERR_ILL : (compressBuffer s).ERR_ILL = s.ERR_ILL := by
  simp [compressBuffer]
@[simp] theorem compressBuffer_ERR_SEQ : (compressBuffer s).ERR_SEQ = s.ERR_SEQ := by
  simp [compressBuffer]
@[simp] theorem compressBuffer_DIGEST : (compressBuffer s).DIGEST = s.DIGEST := by
  simp [compressBuffer]
@[simp] theorem compressBuffer_DVALID : (compressBuffer s).DVALID = s.DVALID := by
  simp [compressBuffer]
@[simp] theorem compressBuffer_pending : (compressBuffer s).pending = s.pending := by
  simp [compressBuffer]
@[simp] theorem compressBuffer_reads : (compressBuffer s).reads = s.reads := by
  simp [compressBuffer]

/-! ### `storeLanes` -/

@[simp] theorem storeLanes_H (S : Words5) (i : Fin 5) : (storeLanes cfg S i s).H = s.H :=
  foldl_proj (fun t b => State.setLane t b (stageLane cfg t.H S i b)) State.H (fun _ _ => rfl) _ _
@[simp] theorem storeLanes_BUF (S : Words5) (i : Fin 5) : (storeLanes cfg S i s).BUF = s.BUF :=
  foldl_proj (fun t b => State.setLane t b (stageLane cfg t.H S i b)) State.BUF (fun _ _ => rfl) _ _
@[simp] theorem storeLanes_BUFLEN (S : Words5) (i : Fin 5) : (storeLanes cfg S i s).BUFLEN = s.BUFLEN :=
  foldl_proj (fun t b => State.setLane t b (stageLane cfg t.H S i b)) State.BUFLEN (fun _ _ => rfl) _ _
@[simp] theorem storeLanes_TOTBITS (S : Words5) (i : Fin 5) : (storeLanes cfg S i s).TOTBITS = s.TOTBITS :=
  foldl_proj (fun t b => State.setLane t b (stageLane cfg t.H S i b)) State.TOTBITS (fun _ _ => rfl) _ _
@[simp] theorem storeLanes_BB (S : Words5) (i : Fin 5) : (storeLanes cfg S i s).BB = s.BB :=
  foldl_proj (fun t b => State.setLane t b (stageLane cfg t.H S i b)) State.BB (fun _ _ => rfl) _ _
@[simp] theorem storeLanes_ACTIVE (S : Words5) (i : Fin 5) : (storeLanes cfg S i s).ACTIVE = s.ACTIVE :=
  foldl_proj (fun t b => State.setLane t b (stageLane cfg t.H S i b)) State.ACTIVE (fun _ _ => rfl) _ _
@[simp] theorem storeLanes_ERR_ILL (S : Words5) (i : Fin 5) : (storeLanes cfg S i s).ERR_ILL = s.ERR_ILL :=
  foldl_proj (fun t b => State.setLane t b (stageLane cfg t.H S i b)) State.ERR_ILL (fun _ _ => rfl) _ _
@[simp] theorem storeLanes_ERR_SEQ (S : Words5) (i : Fin 5) : (storeLanes cfg S i s).ERR_SEQ = s.ERR_SEQ :=
  foldl_proj (fun t b => State.setLane t b (stageLane cfg t.H S i b)) State.ERR_SEQ (fun _ _ => rfl) _ _
@[simp] theorem storeLanes_DIGEST (S : Words5) (i : Fin 5) : (storeLanes cfg S i s).DIGEST = s.DIGEST :=
  foldl_proj (fun t b => State.setLane t b (stageLane cfg t.H S i b)) State.DIGEST (fun _ _ => rfl) _ _
@[simp] theorem storeLanes_DVALID (S : Words5) (i : Fin 5) : (storeLanes cfg S i s).DVALID = s.DVALID :=
  foldl_proj (fun t b => State.setLane t b (stageLane cfg t.H S i b)) State.DVALID (fun _ _ => rfl) _ _
@[simp] theorem storeLanes_pending (S : Words5) (i : Fin 5) : (storeLanes cfg S i s).pending = s.pending :=
  foldl_proj (fun t b => State.setLane t b (stageLane cfg t.H S i b)) State.pending (fun _ _ => rfl) _ _
@[simp] theorem storeLanes_reads (S : Words5) (i : Fin 5) : (storeLanes cfg S i s).reads = s.reads :=
  foldl_proj (fun t b => State.setLane t b (stageLane cfg t.H S i b)) State.reads (fun _ _ => rfl) _ _

/-! ### `bigBox` -/

@[simp] theorem bigBox_H (i : Fin 5) : (bigBox cfg s i).H = s.H := by
  simp [bigBox]
@[simp] theorem bigBox_BUF (i : Fin 5) : (bigBox cfg s i).BUF = s.BUF := by
  simp [bigBox]
@[simp] theorem bigBox_BUFLEN (i : Fin 5) : (bigBox cfg s i).BUFLEN = s.BUFLEN := by
  simp [bigBox]
@[simp] theorem bigBox_TOTBITS (i : Fin 5) : (bigBox cfg s i).TOTBITS = s.TOTBITS := by
  simp [bigBox]
@[simp] theorem bigBox_LB (i : Fin 5) : (bigBox cfg s i).LB = (storeLanes cfg (saltGen cfg s.H) i s).LB := by
  simp [bigBox]
@[simp] theorem bigBox_ACTIVE (i : Fin 5) : (bigBox cfg s i).ACTIVE = s.ACTIVE := by
  simp [bigBox]
@[simp] theorem bigBox_ERR_ILL (i : Fin 5) : (bigBox cfg s i).ERR_ILL = s.ERR_ILL := by
  simp [bigBox]
@[simp] theorem bigBox_ERR_SEQ (i : Fin 5) : (bigBox cfg s i).ERR_SEQ = s.ERR_SEQ := by
  simp [bigBox]
@[simp] theorem bigBox_DIGEST (i : Fin 5) : (bigBox cfg s i).DIGEST = s.DIGEST := by
  simp [bigBox]
@[simp] theorem bigBox_DVALID (i : Fin 5) : (bigBox cfg s i).DVALID = s.DVALID := by
  simp [bigBox]
@[simp] theorem bigBox_pending (i : Fin 5) : (bigBox cfg s i).pending = s.pending := by
  simp [bigBox]
@[simp] theorem bigBox_reads (i : Fin 5) : (bigBox cfg s i).reads = s.reads := by
  simp [bigBox]

/-! ### `runStages` -/

@[simp] theorem runStages_H : (runStages cfg s).H = s.H := by
  rw [runStages, foldl_proj (bigBox cfg) State.H (bigBox_H cfg)]
@[simp] theorem runStages_BUF : (runStages cfg s).BUF = s.BUF := by
  rw [runStages, foldl_proj (bigBox cfg) State.BUF (bigBox_BUF cfg)]
@[simp] theorem runStages_BUFLEN : (runStages cfg s).BUFLEN = s.BUFLEN := by
  rw [runStages, foldl_proj (bigBox cfg) State.BUFLEN (bigBox_BUFLEN cfg)]
@[simp] theorem runStages_TOTBITS : (runStages cfg s).TOTBITS = s.TOTBITS := by
  rw [runStages, foldl_proj (bigBox cfg) State.TOTBITS (bigBox_TOTBITS cfg)]
@[simp] theorem runStages_ACTIVE : (runStages cfg s).ACTIVE = s.ACTIVE := by
  rw [runStages, foldl_proj (bigBox cfg) State.ACTIVE (bigBox_ACTIVE cfg)]
@[simp] theorem runStages_ERR_ILL : (runStages cfg s).ERR_ILL = s.ERR_ILL := by
  rw [runStages, foldl_proj (bigBox cfg) State.ERR_ILL (bigBox_ERR_ILL cfg)]
@[simp] theorem runStages_ERR_SEQ : (runStages cfg s).ERR_SEQ = s.ERR_SEQ := by
  rw [runStages, foldl_proj (bigBox cfg) State.ERR_SEQ (bigBox_ERR_SEQ cfg)]
@[simp] theorem runStages_DIGEST : (runStages cfg s).DIGEST = s.DIGEST := by
  rw [runStages, foldl_proj (bigBox cfg) State.DIGEST (bigBox_DIGEST cfg)]
@[simp] theorem runStages_DVALID : (runStages cfg s).DVALID = s.DVALID := by
  rw [runStages, foldl_proj (bigBox cfg) State.DVALID (bigBox_DVALID cfg)]
@[simp] theorem runStages_pending : (runStages cfg s).pending = s.pending := by
  rw [runStages, foldl_proj (bigBox cfg) State.pending (bigBox_pending cfg)]
@[simp] theorem runStages_reads : (runStages cfg s).reads = s.reads := by
  rw [runStages, foldl_proj (bigBox cfg) State.reads (bigBox_reads cfg)]

/-! ### `mixOutput` -/

@[simp] theorem mixOutput_H : (mixOutput s).H = outMixD (outMixC s.BB (outMixB s.BB (outMixA s.H))) := by
  simp [mixOutput]
@[simp] theorem mixOutput_BUF : (mixOutput s).BUF = s.BUF := by
  simp [mixOutput]
@[simp] theorem mixOutput_BUFLEN : (mixOutput s).BUFLEN = s.BUFLEN := by
  simp [mixOutput]
@[simp] theorem mixOutput_TOTBITS : (mixOutput s).TOTBITS = s.TOTBITS := by
  simp [mixOutput]
@[simp] theorem mixOutput_LB : (mixOutput s).LB = s.LB := by
  simp [mixOutput]
@[simp] theorem mixOutput_BB : (mixOutput s).BB = s.BB := by
  simp [mixOutput]
@[simp] theorem mixOutput_ACTIVE : (mixOutput s).ACTIVE = s.ACTIVE := by
  simp [mixOutput]
@[simp] theorem mixOutput_ERR_ILL : (mixOutput s).ERR_ILL = s.ERR_ILL := by
  simp [mixOutput]
@[simp] theorem mixOutput_ERR_SEQ : (mixOutput s).ERR_SEQ = s.ERR_SEQ := by
  simp [mixOutput]
@[simp] theorem mixOutput_DIGEST : (mixOutput s).DIGEST = s.DIGEST := by
  simp [mixOutput]
@[simp] theorem mixOutput_DVALID : (mixOutput s).DVALID = s.DVALID := by
  simp [mixOutput]
@[simp] theorem mixOutput_pending : (mixOutput s).pending = s.pending := by
  simp [mixOutput]
@[simp] theorem mixOutput_reads : (mixOutput s).reads = s.reads := by
  simp [mixOutput]

/-! ### `emitDigest` -/

@[simp] theorem emitDigest_H : (emitDigest s).H = s.H := by
  simp [emitDigest]
@[simp] theorem emitDigest_BUF : (emitDigest s).BUF = s.BUF := by
  simp [emitDigest]
@[simp] theorem emitDigest_BUFLEN : (emitDigest s).BUFLEN = s.BUFLEN := by
  simp [emitDigest]
@[simp] theorem emitDigest_TOTBITS : (emitDigest s).TOTBITS = s.TOTBITS := by
  simp [emitDigest]
@[simp] theorem emitDigest_LB : (emitDigest s).LB = s.LB := by
  simp [emitDigest]
@[simp] theorem emitDigest_BB : (emitDigest s).BB = s.BB := by
  simp [emitDigest]
@[simp] theorem emitDigest_ACTIVE : (emitDigest s).ACTIVE = s.ACTIVE := by
  simp [emitDigest]
@[simp] theorem emitDigest_ERR_ILL : (emitDigest s).ERR_ILL = s.ERR_ILL := by
  simp [emitDigest]
@[simp] theorem emitDigest_ERR_SEQ : (emitDigest s).ERR_SEQ = s.ERR_SEQ := by
  simp [emitDigest]
@[simp] theorem emitDigest_DIGEST : (emitDigest s).DIGEST = serialize s.H := by
  simp [emitDigest]
@[simp] theorem emitDigest_DVALID : (emitDigest s).DVALID = true := by
  simp [emitDigest]
@[simp] theorem emitDigest_pending : (emitDigest s).pending = s.pending := by
  simp [emitDigest]
@[simp] theorem emitDigest_reads : (emitDigest s).reads = s.reads := by
  simp [emitDigest]

/-! ### `closeContext` -/

@[simp] theorem closeContext_H : (closeContext s).H = zeroWords5 := by
  simp [closeContext]
@[simp] theorem closeContext_BUF : (closeContext s).BUF = [] := by
  simp [closeContext]
@[simp] theorem closeContext_BUFLEN : (closeContext s).BUFLEN = 0 := by
  simp [closeContext]
@[simp] theorem closeContext_TOTBITS : (closeContext s).TOTBITS = 0 := by
  simp [closeContext]
@[simp] theorem closeContext_LB : (closeContext s).LB = Vector.replicate 10 zeroLane := by
  simp [closeContext]
@[simp] theorem closeContext_BB : (closeContext s).BB = Vector.replicate 5 zeroWords5 := by
  simp [closeContext]
@[simp] theorem closeContext_ACTIVE : (closeContext s).ACTIVE = false := by
  simp [closeContext]
@[simp] theorem closeContext_ERR_ILL : (closeContext s).ERR_ILL = s.ERR_ILL := by
  simp [closeContext]
@[simp] theorem closeContext_ERR_SEQ : (closeContext s).ERR_SEQ = s.ERR_SEQ := by
  simp [closeContext]
@[simp] theorem closeContext_DIGEST : (closeContext s).DIGEST = s.DIGEST := by
  simp [closeContext]
@[simp] theorem closeContext_DVALID : (closeContext s).DVALID = s.DVALID := by
  simp [closeContext]
@[simp] theorem closeContext_pending : (closeContext s).pending = s.pending := by
  simp [closeContext]
@[simp] theorem closeContext_reads : (closeContext s).reads = s.reads := by
  simp [closeContext]

/-! ### `startHash` -/

@[simp] theorem startHash_H : (startHash cfg s).H = hinit cfg := by
  simp [startHash]
@[simp] theorem startHash_BUF : (startHash cfg s).BUF = [] := by
  simp [startHash]
@[simp] theorem startHash_BUFLEN : (startHash cfg s).BUFLEN = 0 := by
  simp [startHash]
@[simp] theorem startHash_TOTBITS : (startHash cfg s).TOTBITS = 0 := by
  simp [startHash]
@[simp] theorem startHash_LB : (startHash cfg s).LB = Vector.replicate 10 zeroLane := by
  simp [startHash]
@[simp] theorem startHash_BB : (startHash cfg s).BB = Vector.replicate 5 zeroWords5 := by
  simp [startHash]
@[simp] theorem startHash_ACTIVE : (startHash cfg s).ACTIVE = true := by
  simp [startHash]
@[simp] theorem startHash_ERR_ILL : (startHash cfg s).ERR_ILL = s.ERR_ILL := by
  simp [startHash]
@[simp] theorem startHash_ERR_SEQ : (startHash cfg s).ERR_SEQ = s.ERR_SEQ := by
  simp [startHash]
@[simp] theorem startHash_DIGEST : (startHash cfg s).DIGEST = zeroDigest := by
  simp [startHash]
@[simp] theorem startHash_DVALID : (startHash cfg s).DVALID = false := by
  simp [startHash]
@[simp] theorem startHash_pending : (startHash cfg s).pending = s.pending := by
  simp [startHash]
@[simp] theorem startHash_reads : (startHash cfg s).reads = s.reads := by
  simp [startHash]

/-! ### `absorb` -/

/-- Everything absorbing a byte can do (R223): either the byte is only stored, or the buffer is full
and is dispatched. -/
theorem absorb_cases (byte : Byte) :
    (∃ h : s.BUFLEN.val + 1 < 128, absorb byte s =
      ((s.storeByte s.BUFLEN byte).countByte).setBufLen ⟨s.BUFLEN.val + 1, h⟩) ∨
    (s.BUFLEN.val = 127 ∧ absorb byte s =
      (compressBuffer (s.storeByte s.BUFLEN byte).countByte).setBufLen 0) := by
  unfold absorb
  by_cases h : s.BUFLEN.val + 1 < 128
  · exact .inl ⟨h, dif_pos h⟩
  · exact .inr ⟨by omega, dif_neg h⟩

@[simp] theorem absorb_BUF (byte : Byte) : (absorb byte s).BUF = s.BUF.write s.BUFLEN byte := by
  rcases absorb_cases s byte with ⟨h, e⟩ | ⟨h, e⟩ <;> simp [e]

@[simp] theorem absorb_TOTBITS (byte : Byte) : (absorb byte s).TOTBITS = s.TOTBITS + 8 := by
  rcases absorb_cases s byte with ⟨h, e⟩ | ⟨h, e⟩ <;> simp [e]

@[simp] theorem absorb_LB (byte : Byte) : (absorb byte s).LB = s.LB := by
  rcases absorb_cases s byte with ⟨h, e⟩ | ⟨h, e⟩ <;> simp [e]

@[simp] theorem absorb_BB (byte : Byte) : (absorb byte s).BB = s.BB := by
  rcases absorb_cases s byte with ⟨h, e⟩ | ⟨h, e⟩ <;> simp [e]

@[simp] theorem absorb_ACTIVE (byte : Byte) : (absorb byte s).ACTIVE = s.ACTIVE := by
  rcases absorb_cases s byte with ⟨h, e⟩ | ⟨h, e⟩ <;> simp [e]

@[simp] theorem absorb_ERR_ILL (byte : Byte) : (absorb byte s).ERR_ILL = s.ERR_ILL := by
  rcases absorb_cases s byte with ⟨h, e⟩ | ⟨h, e⟩ <;> simp [e]

@[simp] theorem absorb_ERR_SEQ (byte : Byte) : (absorb byte s).ERR_SEQ = s.ERR_SEQ := by
  rcases absorb_cases s byte with ⟨h, e⟩ | ⟨h, e⟩ <;> simp [e]

@[simp] theorem absorb_DIGEST (byte : Byte) : (absorb byte s).DIGEST = s.DIGEST := by
  rcases absorb_cases s byte with ⟨h, e⟩ | ⟨h, e⟩ <;> simp [e]

@[simp] theorem absorb_DVALID (byte : Byte) : (absorb byte s).DVALID = s.DVALID := by
  rcases absorb_cases s byte with ⟨h, e⟩ | ⟨h, e⟩ <;> simp [e]

@[simp] theorem absorb_pending (byte : Byte) : (absorb byte s).pending = s.pending := by
  rcases absorb_cases s byte with ⟨h, e⟩ | ⟨h, e⟩ <;> simp [e]

@[simp] theorem absorb_reads (byte : Byte) : (absorb byte s).reads = s.reads := by
  rcases absorb_cases s byte with ⟨h, e⟩ | ⟨h, e⟩ <;> simp [e]

/-- The buffer length after a byte (R223): counted modulo 128. -/
theorem absorb_BUFLEN (byte : Byte) : (absorb byte s).BUFLEN.val = (s.BUFLEN.val + 1) % 128 := by
  rcases absorb_cases s byte with ⟨h, e⟩ | ⟨h, e⟩
  · simp [e, Nat.mod_eq_of_lt h]
  · simp [e, h]

/-! ### `finalize` -/

/-- `FINAL` leaves the context zero and inactive, the flags and the host's side as they were, and the
digest register valid (R208, R209). -/
theorem finalize_eq : finalize cfg s =
    { State.reset with
      ERR_ILL := s.ERR_ILL
      ERR_SEQ := s.ERR_SEQ
      DIGEST := serialize (mixOutput (runStages cfg (compressBuffer (padBuffer s)))).H
      DVALID := true
      pending := s.pending
      reads := s.reads } := by
  simp [finalize, closeContext, State.zeroContext, State.setActive, emitDigest, State.setDigest,
    State.reset]

end Sys2Proof.Machine
end

