-- ==== Sys2Proof/Laws/PerInstr.lean ====
section
/-! SUPPORT. Statements about every command, made per constructor. -/

namespace Sys2Proof.Laws.EncodeLegal

/-- The encoding of a command has legal fields (R74), and the command is well formed. -/
def Statement (i : Instr) : Prop :=
  (encodeFields i).wellFormed = true ∧ i.wellFormed = true

theorem init : Statement .init := ⟨rfl, rfl⟩

theorem update (byte : Byte) : Statement (.update byte) := ⟨rfl, rfl⟩

theorem final : Statement .final := ⟨rfl, rfl⟩

theorem reset : Statement .reset := ⟨rfl, rfl⟩

theorem wipe : Statement .wipe := ⟨rfl, rfl⟩

end Sys2Proof.Laws.EncodeLegal
end

