-- ==== Sys2Proof/Laws/Primitives.lean ====
section
/-! SUPPORT. The small lemmas of the word and vector primitives. -/

namespace Sys2Proof.Machine

@[simp] theorem rotl_zero_word (n : Count) : rotl 0#64 n = 0#64 := by simp [rotl]

@[simp] theorem rotr_zero_word (n : Count) : rotr 0#64 n = 0#64 := by simp [rotr]

@[simp] theorem shr_zero_word (n : Count) : shr 0#64 n = 0#64 := by simp [shr]

@[simp] theorem rotl_by_zero (x : Word) : rotl x 0 = x := by simp [rotl]

@[simp] theorem rotr_by_zero (x : Word) : rotr x 0 = x := by simp [rotr]

@[simp] theorem Vec4.get_ofFn (f : Fin 4 → Word) (d : Fin 4) : (Vec4.ofFn f).get d = f d := by
  fin_cases d <;> rfl

@[simp] theorem Vec4.get_map (f : Word → Word) (V : Vec4) (d : Fin 4) :
    (V.map f).get d = f (V.get d) := Vec4.get_ofFn _ d

@[simp] theorem Vec4.get_zip (f : Word → Word → Word) (V U : Vec4) (d : Fin 4) :
    (V.zip f U).get d = f (V.get d) (U.get d) := Vec4.get_ofFn _ d

theorem Vec4.ext_get {V U : Vec4} (h : ∀ d, V.get d = U.get d) : V = U := by
  obtain ⟨a, b, c, d⟩ := V
  obtain ⟨a', b', c', d'⟩ := U
  have h0 := h 0
  have h1 := h 1
  have h2 := h 2
  have h3 := h 3
  simp only [Vec4.get] at h0 h1 h2 h3
  rw [h0, h1, h2, h3]

/-- The closed form of MIX_LANES (R170): elements 0 and 1 are equal, and 2 and 3. -/
theorem mixLanes_eq (V : Vec4) : mixLanes V =
    ⟨mixTail (V.v2 ^^^ V.v3), mixTail (V.v3 ^^^ V.v2),
     mixTail (V.v0 ^^^ V.v1), mixTail (V.v1 ^^^ V.v0)⟩ := rfl

@[simp] theorem mixTail_zero : mixTail 0#64 = 0#64 := by simp [mixTail]

@[simp] theorem hxorScalar_zero : hxorScalar 0#64 = 0#64 := by simp [hxorScalar]

end Sys2Proof.Machine
end

