-- ==== Sys2Proof/Laws/Step.lean ====
section
/-! SUPPORT. What a command, a host move and a step can do, said once: invariants are proved from
these lemmas. -/

namespace Sys2Proof.Machine

variable {s t : State}

/-- What a command that answers a next state has done (R220 to R225, R242). -/
theorem exec_cases {i : Instr} (h : exec i s = .next t) :
    ((i = .init ∨ i = .reset) ∧ t = startHash Config.cfg s) ∨
    (∃ b, i = .update b ∧ s.ACTIVE = true ∧ t = absorb b s) ∨
    (i = .final ∧ s.ACTIVE = true ∧ t = finalize Config.cfg s) ∨
    (i = .wipe ∧ t = ((s.zeroContext).setActive false).clearDigest) ∨
    (((∃ b, i = .update b) ∨ i = .final) ∧ s.ACTIVE = false ∧ t = s.raise .sequence) := by
  cases i with
  | init => exact .inl ⟨.inl rfl, (Host.Outcome.next.inj h).symm⟩
  | reset => exact .inl ⟨.inr rfl, (Host.Outcome.next.inj h).symm⟩
  | wipe => exact .inr (.inr (.inr (.inl ⟨rfl, (Host.Outcome.next.inj h).symm⟩)))
  | update b =>
    simp only [exec, execUpdate, messageByte] at h
    split at h
    · next ha => exact .inr (.inl ⟨b, rfl, ha, (Host.Outcome.next.inj h).symm⟩)
    · next ha => exact .inr (.inr (.inr (.inr ⟨.inl ⟨b, rfl⟩, by simpa using ha, (Host.Outcome.next.inj h).symm⟩)))
  | final =>
    simp only [exec, execFinal] at h
    split at h
    · next ha => exact .inr (.inr (.inl ⟨rfl, ha, (Host.Outcome.next.inj h).symm⟩))
    · next ha => exact .inr (.inr (.inr (.inr ⟨.inr rfl, by simpa using ha, (Host.Outcome.next.inj h).symm⟩)))

/-- What writing a word to `CMD` has done: executed it, or raised `ERR_ILL` (R78, R241). -/
theorem issueCommand_cases {w : Word32} (h : issueCommand w s = .next t) :
    (∃ i, decode w = .ok i ∧ exec i s = .next t) ∨
    (∃ e, decode w = .error e ∧ t = s.raise .illegal) := by
  unfold issueCommand at h
  split at h
  · next i hi => exact .inl ⟨i, hi, h⟩
  · next e he => exact .inr ⟨e, he, (Host.Outcome.next.inj h).symm⟩

/-- What a host move that answers a next state has done: executed or rejected a word, returned a value,
reset the engine, or been ignored (R54, R56, R262). -/
theorem perform_cases {a : HostAction} (h : perform a s = .next t) :
    (∃ off n w, a = .write off n w ∧ accessTarget off n = .register .cmd ∧
      issueCommand w s = .next t) ∨
    (∃ off n r, a = .read off n ∧ accessTarget off n = .register r ∧
      t = s.pushRead (readRegister s r)) ∨
    (a = .hardwareReset ∧ t = s.hardwareReset) ∨
    (∃ off n w r, a = .write off n w ∧ accessTarget off n = .register r ∧ r ≠ .cmd ∧ t = s) := by
  cases a with
  | hardwareReset => exact .inr (.inr (.inl ⟨rfl, (Host.Outcome.next.inj h).symm⟩))
  | read off n =>
    simp only [perform] at h
    split at h
    · next r hr => exact .inr (.inl ⟨off, n, r, rfl, hr, (Host.Outcome.next.inj h).symm⟩)
    · cases h
    · cases h
  | write off n w =>
    simp only [perform] at h
    split at h
    · next r hr =>
      by_cases hc : r = .cmd
      · subst hc
        exact .inl ⟨off, n, w, rfl, hr, h⟩
      · refine .inr (.inr (.inr ⟨off, n, w, r, rfl, hr, hc, ?_⟩))
        cases r <;> first | exact absurd rfl hc | exact (Host.Outcome.next.inj h).symm
    · cases h
    · cases h

/-- The target of an access is a register exactly for the accesses that R54 defines. -/
theorem accessTarget_eq_register (off n : Nat) :
    (∃ r, accessTarget off n = .register r) ↔ n = 4 ∧ off % 4 = 0 ∧ off ≤ 0x3C := by
  unfold accessTarget
  split
  · split
    · exact ⟨fun _ => by omega, fun _ => ⟨_, rfl⟩⟩
    · exact ⟨fun ⟨_, h⟩ => (by cases h), fun h => by omega⟩
  · exact ⟨fun ⟨_, h⟩ => (by cases h), fun h => by omega⟩

/-- A move that is not defined is an access, and is refused by the name that its own offset gives (R54,
D28). -/
theorem perform_of_not_defined {a : HostAction} (h : a.defined = false) (s : State) :
    ∃ off n, ((∃ v, a = .write off n v) ∨ a = .read off n) ∧ perform a s =
      .refused (if off < 64 then .undefinedAccess off n else .outsideWindow off n) := by
  cases a with
  | hardwareReset => cases h
  | read off n =>
    refine ⟨off, n, .inr rfl, ?_⟩
    simp only [HostAction.defined, decide_eq_false_iff_not] at h
    by_cases ho : off < 64
    · simp [perform, accessTarget, ho, show ¬ (n = 4 ∧ off % 4 = 0) by omega]
    · simp [perform, accessTarget, ho]
  | write off n v =>
    refine ⟨off, n, .inl ⟨v, rfl⟩, ?_⟩
    simp only [HostAction.defined, decide_eq_false_iff_not] at h
    by_cases ho : off < 64
    · simp [perform, accessTarget, ho, show ¬ (n = 4 ∧ off % 4 = 0) by omega]
    · simp [perform, accessTarget, ho]

/-- What a step that answers a next state has done: nothing, or the host's next move (R60). -/
theorem step_cases (h : step s = .next t) :
    (s.pending = [] ∧ t = s) ∨
    ∃ a rest, s.pending = a :: rest ∧ perform a (s.setPending rest) = .next t := by
  unfold step State.fetch at h
  cases hp : s.pending with
  | nil =>
    rw [hp] at h
    exact .inl ⟨rfl, (Host.Outcome.next.inj h).symm⟩
  | cons a rest =>
    rw [hp] at h
    exact .inr ⟨a, rest, rfl, h⟩

/-- A step whose next move is known is that move (R60). -/
theorem step_setPending (s : State) (a : HostAction) (rest : List HostAction) :
    step (s.setPending (a :: rest)) = perform a (s.setPending rest) := rfl

/-- The move that issues a word reaches `CMD` (R57, R78). -/
theorem perform_commandMove (w : Word32) (s : State) :
    perform (commandMove w) s = issueCommand w s := rfl

end Sys2Proof.Machine
end

