-- ==== Sys2Proof/Tests/Slice0.lean ====
section
/-! SUPPORT. The model's own tests: expected values are the spec's (the file and section named at
each), never the model's answers; and a witness for the hypotheses of each statement that has some. -/

namespace Sys2Proof.Tests
open Sys2Proof.Machine

/-! ### WellFormed: each check refuses an ill-formed term (30_encoding.md R74) -/

theorem test_rsv_refused : ({ rsv := 1, data := 0, op := 0x02 } : Fields).wellFormed = false := by decide
theorem test_op_zero_refused : ({ rsv := 0, data := 0, op := 0x00 } : Fields).wellFormed = false := by decide
theorem test_op_six_refused : ({ rsv := 0, data := 0, op := 0x06 } : Fields).wellFormed = false := by decide
theorem test_data_refused : ({ rsv := 0, data := 1, op := 0x03 } : Fields).wellFormed = false := by decide
theorem test_update_accepted : ({ rsv := 0, data := 0xFF, op := 0x02 } : Fields).wellFormed = true := by decide
theorem test_instr_wellFormed : (Instr.update 0xFF).wellFormed = true := by decide
theorem test_misaligned_undefined : (HostAction.read 0x02 4).defined = false := by decide
theorem test_outside_undefined : (HostAction.read 0x40 4).defined = false := by decide
theorem test_outside_refused :
    step (State.reset.setPending [.read 0x40 4]) = .refused (.outsideWindow 0x40 4) := rfl
theorem test_narrow_undefined : (HostAction.write 0x00 2 0).defined = false := by decide

/-! ### Decode: words written out bit by bit (30_encoding.md R71, R72, R76) -/

theorem test_decode_init :
    decode 0b0000000000000000_00000000_00000001 = .ok .init := rfl
theorem test_decode_update :
    decode 0b0000000000000000_01100001_00000010 = .ok (.update 0x61) := rfl
theorem test_decode_final :
    decode 0b0000000000000000_00000000_00000011 = .ok .final := rfl
theorem test_decode_reset :
    decode 0b0000000000000000_00000000_00000100 = .ok .reset := rfl
theorem test_decode_wipe :
    decode 0b0000000000000000_00000000_00000101 = .ok .wipe := rfl
theorem test_decode_rsv : decode 0x00010002 = .error .reservedBits := rfl
theorem test_decode_zero : decode 0x00000000 = .error .unknownOp := rfl
theorem test_decode_data : decode 0x00000103 = .error .dataNotZero := rfl
theorem test_table_word : decodeTableWord 32 0x0000FF02 = some (.update 0xFF) := by decide

/-! ### Components, on the vectors of 95_test_vectors.md sections 3.1 to 3.7 -/

/-- Test configuration T0 (95 section 2). -/
def T0 : Cfg := ⟨Vector.replicate 128 0, Vector.replicate 32 0, 0, 0⟩

/-- T0 with another SEED[0], which the salt does not depend on (R157). -/
def T0seed : Cfg := { T0 with SEED := T0.SEED.set 0 1 }

theorem test_rotl : rotl 0x0123456789ABCDEF 13 = 0x68ACF13579BDE024 := by decide
theorem test_rotr : rotr 0x0123456789ABCDEF 17 = 0xE6F78091A2B3C4D5 := by decide
theorem test_gammaMix : gammaMix 1 2 3 4 = 0x80B31A02030432A3 := by decide
theorem test_sigma2 : sigmaTransform 1 .v2 = 0x8100000000000000 := by decide
theorem test_sigma3 : sigmaTransform 0x0123456789ABCDEF .v3 = 0x70A3460DBBD4317A := by decide
theorem test_compress : compress #v[1, 2, 3, 4, 5] (Vector.ofFn fun j => BitVec.ofNat 64 (0x10 + j.val)) =
    #v[0x17122CF462CA2044, 0x7661DAA276DB582C, 0x5AFA2AC675A89BE7, 0xCCF76D81206B07DE,
       0x8F209046640384B1] := by decide
theorem test_saltF : saltF 1 = 0x843E93FE2AA72E24 := by decide
theorem test_mixLanes : mixLanes ⟨1, 2, 4, 8⟩ = ⟨0x18000C, 0x18000C, 0x60003, 0x60003⟩ := by decide
theorem test_arx : arx ⟨1, 2, 3, 4⟩ (broadcast 0x10) ⟨0x100, 0x200, 0x300, 0x400⟩ 7 13 =
    ⟨0x66338663A463A2AE, 0x66338663A463A2AE, 0x54F1843098718AF6, 0x54F1843098718AF6⟩ := by decide
theorem test_hxorScalar : hxorScalar 1 = 0x37424016E8581220 := by decide
theorem test_extraMix : extraMix 1 = 0xD31933196AA41926 := by decide
theorem test_outMixA : outMixA #v[1, 2, 3, 4, 5] =
    #v[0x2570B97996EBF38E, 0x3301D18CCCF4FF23, 0x615F451BA8E0F783, 0x22B05C15CDA18FB4,
       0xDC4A543F26F43B82] := by decide
theorem test_outMixDRound : outMixDRound #v[1, 2, 3, 4, 5] =
    #v[0x9E6B1FC9B7B977AB, 0x3A3AC69A375AB701, 0xC938EA1FB74167B9, 0xDB78886951D068F1,
       0x8FB0E793EF458EF9] := by decide
theorem test_hinit_T0 : hinit T0 =
    #v[0xBAE1D05E6E1AC20D, 0xF5C583326BBD0AF4, 0x15D2465DE4DCC414, 0x30FFE596B61880E3,
       0x66C39F87C254ED71] := by decide

/-! ### Commands and moves, one step each (95 section 3.8, programs P2 and P4) -/

/-- The next state of an outcome. -/
def after : Host.Outcome State Fault Refusal → Option State
  | .next t => some t
  | .fault _ => none
  | .refused _ => none

/-- A hash in progress with "abc" absorbed. -/
def abc : State :=
  { State.reset with
    H := #v[1, 2, 3, 4, 5]
    BUF := [(0, 0x61), (1, 0x62), (2, 0x63)]
    BUFLEN := 3
    TOTBITS := 24
    ACTIVE := true }

/-- A hash in progress with one byte missing to a block, and both error flags set. -/
def full : State := { abc with BUFLEN := 127, TOTBITS := 1016, ERR_ILL := true, ERR_SEQ := true }

theorem test_init_fresh :
    (after (exec .init full)).map (fun t => (t.BUF, t.TOTBITS, statusWord t)) =
      some ([], 0, 0x0000000D) := by decide
theorem test_reset_fresh :
    (after (exec .reset abc)).map (fun t => (t.BUF, t.TOTBITS, statusWord t)) =
      some ([], 0, 0x00000001) := by decide
theorem test_update_absorbs :
    (after (exec (.update 0x64) abc)).map (fun t => (t.BUF, t.TOTBITS, statusWord t)) =
      some ([(0, 0x61), (1, 0x62), (2, 0x63), (3, 0x64)], 32, 0x00000401) := by decide
theorem test_update_dispatches :
    (after (exec (.update 0x00) full)).map (fun t => (t.TOTBITS, statusWord t)) =
      some (1024, 0x0000000D) := by decide
theorem test_final_idle :
    (after (exec .final State.reset)).map (fun t => (t.DVALID, statusWord t)) =
      some (false, 0x00000004) := by decide
theorem test_wipe_keeps_flags :
    (after (exec .wipe full)).map (fun t => (t.H, t.BUF, statusWord t)) =
      some (zeroWords5, [], 0x0000000C) := by decide
theorem test_illegal_word :
    (after (step (State.reset.setPending [.write 0x00 4 0x00000103]))).map statusWord =
      some 0x00000008 := by decide
theorem test_read_status :
    (after (step (abc.setPending [.read 0x04 4]))).map State.reads = some [0x00000301] := by decide
theorem test_first_command :
    (after (step (State.reset.withFetchWord 32 0x00004102))).map statusWord = some 0x00000004 := by decide
theorem test_assemble :
    assembleLine ['U', 'P', 'D', 'A', 'T', 'E', ' ', '0', 'x', '6', '1', ' ', ';', 'a'] =
      some [0x00006102] := by decide

/-! ### Witnesses: concrete values that meet the hypotheses of the statements -/

theorem witness_IllegalWordsOnlySetErrIll :
    illegalWord 0x00010002 ∧ illegalWord 0x00000006 ∧ illegalWord 0x00000101 ∧
    illegalWord 0xFFFFFFFF := by decide
theorem witness_StepRunsTheDecodedCommand : decode 0x0000FF02 = .ok (.update 0xFF) := rfl
theorem witness_DefinedMovesNeverStop :
    (∀ a rest, (abc.setPending [.read 0x3C 4]).pending = a :: rest → a.defined = true) ∧
    (HostAction.read 0x3D 4).defined = false ∧ (HostAction.write 0x3C 8 0).defined = false ∧
    (HostAction.read 0x40 4).defined = false := by
  refine ⟨fun a rest h => ?_, by decide, by decide, by decide⟩
  obtain ⟨rfl, -⟩ := List.cons.inj h
  decide
theorem witness_UndefinedAccessesAreRefused :
    (63 < 64 ∧ ¬ (4 = 4 ∧ 63 % 4 = 0)) ∧ (0 < 64 ∧ ¬ (2 = 4 ∧ 0 % 4 = 0)) ∧ 64 ≤ 64 := by decide
theorem witness_UpdateAbsorbsOneByte :
    State.reset.ACTIVE = false ∧ abc.ACTIVE = true ∧ full.ACTIVE = true ∧
    abc.BUFLEN.val < 127 ∧ ({ abc with BUFLEN := 126 } : State).BUFLEN.val < 127 ∧
    full.BUFLEN.val = 127 := by decide
theorem witness_FinalWritesTheDigest : State.reset.ACTIVE = false ∧ full.ACTIVE = true := by decide
theorem witness_MisuseOnlySetsErrSeq :
    State.reset.ACTIVE = false ∧ exec .final State.reset = .next (State.reset.raise .sequence) ∧
    exec .wipe full = .next full.wiped := ⟨rfl, rfl, rfl⟩
theorem witness_PhaseTransitions :
    (∃ t, exec .init full = .next t) ∧ (∃ t, exec .reset full = .next t) ∧
    (∃ t, exec (.update 0x61) abc = .next t) ∧ (∃ t, exec .final abc = .next t) ∧
    (∃ t, exec .wipe abc = .next t) := ⟨⟨_, rfl⟩, ⟨_, rfl⟩, ⟨_, rfl⟩, ⟨_, rfl⟩, ⟨_, rfl⟩⟩
theorem witness_LegalityIsCheckedBeforePhase :
    illegalWord 0x00000103 ∧ ¬ illegalWord 0x00000003 := by decide
theorem witness_ErrorFlagsAreSticky :
    step (full.setPending [.read 0x04 4]) = .next ((full.setPending []).pushRead 0x00007F0D) ∧
    (∀ rest, (full.setPending [.read 0x04 4]).pending ≠ .hardwareReset :: rest) ∧
    full.ERR_ILL = true ∧ full.ERR_SEQ = true := by
  exact ⟨rfl, fun rest h => HostAction.noConfusion (List.cons.inj h).1, rfl, rfl⟩
theorem witness_OtherWritesAreIgnored : (1 : Fin 16) ≠ 0 ∧ (15 : Fin 16) ≠ 0 := by decide
theorem witness_RightRotationIsLeftRotation : (1 : Count) ≠ 0 ∧ (63 : Count) ≠ 0 := by decide
theorem witness_SaltDependsOnlyOn :
    (∀ k : Fin 5, k ≠ 0 → (#v[1, 2, 3, 4, 5] : Words5)[k] = (#v[9, 2, 3, 4, 5] : Words5)[k]) ∧
    (∀ j : Fin 32, 1 ≤ j.val → j.val ≤ 7 → T0.SEED[j] = T0seed.SEED[j]) ∧
    T0.SALT_COUNTER_INIT = T0seed.SALT_COUNTER_INIT := by decide
theorem witness_KernelZeroesTheLoadSlots : (8 : Fin 10) ∈ ([0, 1, 4, 5, 8] : List (Fin 10)) := by decide
theorem witness_LittleBoxLaw :
    [zeroLane].length ≤ 4 ∧ [zeroLane, zeroLane].length ≤ 4 ∧
    [zeroLane, zeroLane, zeroLane].length ≤ 4 ∧
    [zeroLane, zeroLane, zeroLane, zeroLane].length ≤ 4 := by decide
theorem witness_DigestSerialisation :
    (#v[0x0123456789ABCDEF, 1, 2, 3, 4] : Words5)[0] = 0x0123456789ABCDEF := by decide
theorem witness_StepKeepsTheInvariant :
    (State.reset.setPending [commandMove 0x00000001]).Inv ∧
    step (State.reset.setPending [commandMove 0x00000001]) = .next (startHash Config.cfg State.reset) := by
  refine ⟨?_, rfl⟩
  constructor <;> decide
theorem witness_UpdatesCountTheMessage : full.ACTIVE = true := by decide
theorem witness_DigestIgnoresStaleBytesAndTotbits :
    let u : State := { abc with BUF := abc.BUF.write 100 0x55, TOTBITS := 7 }
    u.ACTIVE = true ∧ abc.H = u.H ∧ abc.BUFLEN = u.BUFLEN ∧
    (∀ a : Fin 128, a < abc.BUFLEN → abc.BUF.read a = u.BUF.read a) ∧
    abc.ERR_ILL = u.ERR_ILL ∧ abc.ERR_SEQ = u.ERR_SEQ ∧ abc.pending = u.pending ∧
    abc.reads = u.reads := by decide
theorem witness_ZeroisationForgetsTheMessage :
    State.reset.ERR_ILL = abc.ERR_ILL ∧ State.reset.ERR_SEQ = abc.ERR_SEQ ∧
    State.reset.pending = abc.pending ∧ State.reset.reads = abc.reads := by decide
theorem witness_TrailingZeroByteCollides :
    (120 ≤ (List.replicate 120 (0x41 : Byte)).length % 128 ∧
      (List.replicate 120 (0x41 : Byte)).length % 128 ≤ 126) ∧
    (120 ≤ (List.replicate 126 (0x41 : Byte)).length % 128 ∧
      (List.replicate 126 (0x41 : Byte)).length % 128 ≤ 126) := by
  simp

end Sys2Proof.Tests
end

section
/-! PROOFS. Totality of the commands (spec 00_scope.md R15, 47_commands.md R228): in either phase a
command answers a next state, and no command touches the host's lists or the sticky `ERR_ILL`. -/

namespace Sys2Proof.Machine

/-- `UPDATE` completes in both phases: it absorbs its byte, or raises `ERR_SEQ` (R223, R242). -/
theorem exec_update_eq (b : Byte) (s : State) :
    exec (.update b) s = .next (if s.ACTIVE then absorb b s else s.raise .sequence) := by
  cases ha : s.ACTIVE <;> simp only [exec, execUpdate, messageByte, ha] <;> rfl

/-- `FINAL` completes in both phases: it finalizes the hash, or raises `ERR_SEQ` (R224, R242). -/
theorem exec_final_eq (s : State) :
    exec .final s = .next (if s.ACTIVE then finalize Config.cfg s else s.raise .sequence) := by
  cases ha : s.ACTIVE <;> simp only [exec, execFinal, ha] <;> rfl

/-- No command faults or is refused, whatever the state (R15, R228). -/
theorem exec_total (i : Instr) (s : State) : ∃ t, exec i s = .next t := by
  cases i with
  | init => exact ⟨startHash Config.cfg s, rfl⟩
  | update b => exact ⟨_, exec_update_eq b s⟩
  | final => exact ⟨_, exec_final_eq s⟩
  | reset => exact ⟨startHash Config.cfg s, rfl⟩
  | wipe => exact ⟨((s.zeroContext).setActive false).clearDigest, rfl⟩

/-- The frame common to all commands: the host's lists, and `ERR_ILL`, which only an illegal word
sets (R241). -/
theorem exec_frame {i : Instr} {s t : State} (h : exec i s = .next t) :
    t.pending = s.pending ∧ t.reads = s.reads ∧ t.ERR_ILL = s.ERR_ILL := by
  obtain ⟨-, rfl⟩ | ⟨b, -, -, rfl⟩ | ⟨-, -, rfl⟩ | ⟨-, rfl⟩ | ⟨-, -, rfl⟩ := exec_cases h
  · simp
  · simp
  · simp [finalize_eq]
  · simp
  · simp

/-- Settles O19: a command always completes, and what it answers keeps the common frame. -/
theorem everyCommandCompletes : Obligations.EveryCommandCompletes := by
  intro i s
  obtain ⟨t, ht⟩ := exec_total i s
  exact ⟨t, ht, exec_frame ht⟩

end Sys2Proof.Machine
end

section
/-! PROOFS. The reset state (spec 10_state.md R36, R37) and the invariant of R37: one lemma per way a
state can arise, then one per layer of the step. -/

namespace Sys2Proof.Machine

/-! ### The reset state -/

@[simp] theorem digestWord_zeroDigest (j : Fin 10) : digestWord zeroDigest j = 0#32 := by
  simp [digestWord, zeroDigest]

/-- Every register of the window reads 0 after reset (R260). -/
theorem readRegister_reset (r : WindowReg) : readRegister State.reset r = 0 := by
  cases r with
  | digestW j => exact digestWord_zeroDigest j
  | _ => rfl

/-- Settles O11, field by field. -/
theorem resetStateIsZero : Obligations.ResetStateIsZero :=
  ⟨rfl, Memory.read_nil, rfl, rfl, fun b k => by simp [zeroLane], fun i k => by simp [zeroWords5],
    rfl, rfl, rfl, fun n => by simp [zeroDigest], rfl, readRegister_reset⟩

/-! ### Where the invariant comes from -/

/-- The invariant does not speak of the error flags or of the host's lists. -/
theorem State.Inv.frame {s : State} (h : s.Inv) (ill seq : Bool) (ms : List HostAction)
    (rs : List Word32) :
    State.Inv { s with ERR_ILL := ill, ERR_SEQ := seq, pending := ms, reads := rs } :=
  { bufWf := h.bufWf
    idleZero := h.idleZero
    lanesZero := h.lanesZero
    subStatesZero := h.subStatesZero
    validIdle := h.validIdle
    invalidZero := h.invalidZero
    totbitsBytes := h.totbitsBytes
    buflenCounts := h.buflenCounts }

/-- Settles O49: with the context zero and no digest, each clause is a closed fact. -/
theorem invariantHoldsAtReset : Obligations.InvariantHoldsAtReset where
  bufWf := Memory.wf_reset
  idleZero _ := by decide
  lanesZero := rfl
  subStatesZero := rfl
  validIdle _ := rfl
  invalidZero _ := rfl
  totbitsBytes := rfl
  buflenCounts := rfl

/-- An idle engine with its context zero may hold any valid digest. -/
theorem inv_reset_withDigest (d : Vector Byte 40) :
    State.Inv { State.reset with DIGEST := d, DVALID := true } :=
  { invariantHoldsAtReset with
    validIdle := fun _ => rfl
    invalidZero := fun h => by cases h }

/-! ### What each operation does to the invariant -/

theorem State.Inv.setPending {s : State} (h : s.Inv) (ms : List HostAction) :
    (s.setPending ms).Inv :=
  h.frame s.ERR_ILL s.ERR_SEQ ms s.reads

theorem State.Inv.pushRead {s : State} (h : s.Inv) (v : Word32) : (s.pushRead v).Inv :=
  h.frame s.ERR_ILL s.ERR_SEQ s.pending (s.reads ++ [v])

theorem State.Inv.raise {s : State} (h : s.Inv) (e : EngineError) : (s.raise e).Inv := by
  cases e with
  | illegal => exact h.frame true s.ERR_SEQ s.pending s.reads
  | sequence => exact h.frame s.ERR_ILL true s.pending s.reads

/-- Hardware reset establishes the invariant from any state. -/
theorem inv_hardwareReset (s : State) : s.hardwareReset.Inv :=
  invariantHoldsAtReset.frame false false s.pending s.reads

/-- `WIPE` establishes the invariant from any state. -/
theorem inv_wipe (s : State) : (((s.zeroContext).setActive false).clearDigest).Inv :=
  invariantHoldsAtReset.frame s.ERR_ILL s.ERR_SEQ s.pending s.reads

/-- `FINAL` establishes the invariant from any state. -/
theorem inv_finalize (cfg : Cfg) (s : State) : (finalize cfg s).Inv := by
  rw [finalize_eq]
  exact (inv_reset_withDigest _).frame s.ERR_ILL s.ERR_SEQ s.pending s.reads

/-- `INIT` and `RESET` establish the invariant from any state: the context is not zero, as H is not,
but the engine is active. -/
theorem inv_startHash (cfg : Cfg) (s : State) : (startHash cfg s).Inv where
  bufWf := by simp
  idleZero h := by simp at h
  lanesZero := by simp
  subStatesZero := by simp
  validIdle h := by simp at h
  invalidZero _ := by simp
  totbitsBytes := by simp
  buflenCounts := by simp

/-- The two counters still agree after one byte, also when TOTBITS wraps: 2^64 / 8 is a multiple of
128 (R37 (f), log entry 11). -/
theorem counters_agree_after_byte {T : Word} {n : Nat} (h8 : T.toNat % 8 = 0)
    (hn : n = T.toNat / 8 % 128) :
    (T + 8).toNat % 8 = 0 ∧ (n + 1) % 128 = (T + 8).toNat / 8 % 128 := by
  have hsum : (T + 8).toNat = (T.toNat + 8) % 2 ^ 64 := by simp [BitVec.toNat_add]
  omega

/-- Absorbing a byte keeps the invariant of an active engine. -/
theorem State.Inv.absorb {s : State} (h : s.Inv) (ha : s.ACTIVE = true) (b : Byte) :
    (absorb b s).Inv := by
  have hv : s.DVALID = false := by
    cases hd : s.DVALID with
    | false => rfl
    | true => exact absurd (h.validIdle hd) (by simp [ha])
  obtain ⟨h8, hcount⟩ := counters_agree_after_byte h.totbitsBytes h.buflenCounts
  exact
    { bufWf := by rw [absorb_BUF]; exact Memory.wf_write h.bufWf _ _
      idleZero := fun hi => by simp [ha] at hi
      lanesZero := by rw [absorb_LB]; exact h.lanesZero
      subStatesZero := by rw [absorb_BB]; exact h.subStatesZero
      validIdle := fun hd => by simp [hv] at hd
      invalidZero := fun _ => by rw [absorb_DIGEST]; exact h.invalidZero hv
      totbitsBytes := by rw [absorb_TOTBITS]; exact h8
      buflenCounts := by rw [absorb_BUFLEN, absorb_TOTBITS]; exact hcount }

/-! ### The layers of a step -/

theorem exec_preserves_inv {i : Instr} {s t : State} (hs : s.Inv) (h : exec i s = .next t) :
    t.Inv := by
  obtain ⟨-, rfl⟩ | ⟨b, -, ha, rfl⟩ | ⟨-, -, rfl⟩ | ⟨-, rfl⟩ | ⟨-, -, rfl⟩ := exec_cases h
  · exact inv_startHash Config.cfg s
  · exact hs.absorb ha b
  · exact inv_finalize Config.cfg s
  · exact inv_wipe s
  · exact hs.raise .sequence

theorem issueCommand_preserves_inv {w : Word32} {s t : State} (hs : s.Inv)
    (h : issueCommand w s = .next t) : t.Inv := by
  obtain ⟨i, -, hi⟩ | ⟨e, -, rfl⟩ := issueCommand_cases h
  · exact exec_preserves_inv hs hi
  · exact hs.raise .illegal

theorem perform_preserves_inv {a : HostAction} {s t : State} (hs : s.Inv)
    (h : perform a s = .next t) : t.Inv := by
  obtain ⟨off, n, w, -, -, hw⟩ | ⟨off, n, r, -, -, rfl⟩ | ⟨-, rfl⟩ | ⟨off, n, w, r, -, -, -, rfl⟩ :=
    perform_cases h
  · exact issueCommand_preserves_inv hs hw
  · exact hs.pushRead _
  · exact inv_hardwareReset s
  · exact hs

/-- Settles O50: a step does nothing, or performs the host's next move. -/
theorem stepKeepsTheInvariant : Obligations.StepKeepsTheInvariant := by
  intro s t hs h
  obtain ⟨-, rfl⟩ | ⟨a, rest, -, ha⟩ := step_cases h
  · exact hs
  · exact perform_preserves_inv (hs.setPending rest) ha

end Sys2Proof.Machine
end

section
/-! PROOFS. Register reads of the host window (spec 10_state.md R30, 20_memory.md R55 to R57): the
registers as numbers, and what a read step answers. -/

namespace Sys2Proof.Machine

/-! ### Registers as numbers -/

/-- Concatenation is positional: the left part weighs 2 to the width of the right part. -/
theorem toNat_append_eq_add {m n : Nat} (x : BitVec m) (y : BitVec n) :
    (x ++ y).toNat = x.toNat * 2 ^ n + y.toNat := by
  rw [BitVec.toNat_append, ← Nat.shiftLeft_add_eq_or_of_lt y.isLt, Nat.shiftLeft_eq]

@[simp] theorem flagBit_toNat (b : Bool) : (flagBit b).toNat = b.toNat := BitVec.toNat_ofBool b

/-- The value of `STATUS` (R30). -/
theorem statusWord_toNat (s : State) : (statusWord s).toNat =
    s.ACTIVE.toNat + 2 * s.DVALID.toNat + 4 * s.ERR_SEQ.toNat + 8 * s.ERR_ILL.toNat +
      256 * s.BUFLEN.val := by
  have hlen : (BitVec.ofNat 7 s.BUFLEN.val).toNat = s.BUFLEN.val := Nat.mod_eq_of_lt s.BUFLEN.isLt
  simp only [statusWord, toNat_append_eq_add, flagBit_toNat, hlen, BitVec.ofNat_eq_ofNat,
    BitVec.toNat_zero]
  omega

/-- Settles O24. -/
theorem statusRegisterLayout : Obligations.StatusRegisterLayout := statusWord_toNat

/-- The value of `DIGEST_Wj` (R30): four digest bytes, little-endian. -/
theorem digestWord_toNat (d : Vector Byte 40) (j : Fin 10) : (digestWord d j).toNat =
    d[4 * j.val].toNat + 2 ^ 8 * d[4 * j.val + 1].toNat + 2 ^ 16 * d[4 * j.val + 2].toNat +
      2 ^ 24 * d[4 * j.val + 3].toNat := by
  simp only [digestWord, toNat_append_eq_add]
  omega

/-- The low half of TOTBITS (R30). -/
theorem readRegister_totbitsLo (s : State) :
    readRegister s .totbitsLo = BitVec.ofNat 32 s.TOTBITS.toNat := by
  apply BitVec.eq_of_toNat_eq
  simp [readRegister]

/-- The high half of TOTBITS (R30). -/
theorem readRegister_totbitsHi (s : State) :
    readRegister s .totbitsHi = BitVec.ofNat 32 (s.TOTBITS.toNat / 2 ^ 32) := by
  apply BitVec.eq_of_toNat_eq
  simp [readRegister, Nat.shiftRight_eq_div_pow]

/-! ### The read step -/

/-- No register shows the host's moves still to come. -/
@[simp] theorem readRegister_setPending (s : State) (ms : List HostAction) (r : WindowReg) :
    readRegister (s.setPending ms) r = readRegister s r := by
  cases r <;> rfl

/-- The access of 32 bits at offset 4k reaches the register of slot k (R54, R57). -/
theorem accessTarget_slot (k : Fin 16) : accessTarget (4 * k.val) 4 = .register (windowReg k) := by
  have hk := k.isLt
  simp [accessTarget, show 4 * k.val < 64 by omega]

/-- Slots 4 to 13 are the digest words (R57). -/
theorem windowReg_digest (j : Fin 10) :
    windowReg ⟨j.val + 4, by omega⟩ = .digestW j := by
  have hj := j.isLt
  simp [windowReg, show j.val + 4 ≤ 13 by omega]

/-- A read of a register returns its value and changes nothing else (R56, R60). -/
theorem step_read {off n : Nat} {r : WindowReg} (h : accessTarget off n = .register r) (s : State)
    (rest : List HostAction) :
    step (s.setPending (.read off n :: rest)) =
      .next { s with pending := rest, reads := s.reads ++ [readRegister s r] } := by
  rw [step_setPending]
  simp only [perform, h, readRegister_setPending]
  rfl

/-- Settles O25: each offset is a slot, and the value that of the slot's register. -/
theorem readsReturnTheRegisters : Obligations.ReadsReturnTheRegisters := by
  intro s rest returns
  have slot (k : Fin 16) : returns (4 * k.val) (readRegister s (windowReg k)) :=
    step_read (accessTarget_slot k) s rest
  refine ⟨slot 0, slot 1, ?_, ?_, fun j => ?_, slot 14, slot 15⟩
  · rw [← readRegister_totbitsLo]
    exact slot 2
  · rw [← readRegister_totbitsHi]
    exact slot 3
  · rw [← digestWord_toNat, BitVec.ofNat_toNat, BitVec.setWidth_eq]
    have hslot := slot ⟨j.val + 4, by omega⟩
    rw [windowReg_digest] at hslot
    rwa [show 0x10 + 4 * j.val = 4 * (j.val + 4) by omega]

end Sys2Proof.Machine
end

section
/-! PROOFS. Runs of commands (spec 30_encoding.md R78, 47_commands.md R223): a command word decodes to
its command, and a run of `UPDATE` commands counts its bytes (10_state.md R23, R24). -/

namespace Sys2Proof.Machine

/-! ### A command issued as a host move -/

/-- The fields of a word stand where R71 puts them. -/
theorem fieldsOf_wordOf (f : Fields) : fieldsOf (wordOf f) = f := by
  obtain ⟨rsv, data, op⟩ := f
  have hrsv : (rsv ++ data ++ op).extractLsb' 16 16 = rsv := by
    rw [BitVec.extractLsb'_append_eq_of_le (by omega)]
    exact BitVec.extractLsb'_append_eq_left
  have hdata : (rsv ++ data ++ op).extractLsb' 8 8 = data := by
    rw [BitVec.extractLsb'_append_eq_of_le (by omega)]
    exact BitVec.extractLsb'_append_eq_right
  have hop : (rsv ++ data ++ op).extractLsb' 0 8 = op := BitVec.extractLsb'_append_eq_right
  simp only [fieldsOf, wordOf, hrsv, hdata, hop]

/-- The decoder reads back every command, whatever its operand (R72, R73). -/
theorem decode_encode (i : Instr) : decode (encode i) = .ok i := by
  rw [decode, encode, fieldsOf_wordOf]
  cases i <;> rfl

/-- The step on the move that issues a command executes it (R78). -/
theorem step_command (i : Instr) (s : State) (rest : List HostAction) :
    step (s.setPending (commandMove (encode i) :: rest)) = exec i (s.setPending rest) := by
  rw [step_setPending, perform_commandMove, issueCommand, decode_encode]

/-- A run of any machine goes on from the state its first step answers. -/
theorem run_succ_of_step (M : Host.Core) {s t : M.State} (h : M.step s = .next t) (k : Nat) :
    M.run (k + 1) s = M.run k t := by
  rw [Host.Core.run, h]

/-! ### A run of `UPDATE` commands -/

/-- The bytes of a list absorbed in order. -/
def absorbAll (m : List Byte) (s : State) : State := m.foldl (fun t b => absorb b t) s

@[simp] theorem absorbAll_nil (s : State) : absorbAll [] s = s := rfl

@[simp] theorem absorbAll_cons (b : Byte) (m : List Byte) (s : State) :
    absorbAll (b :: m) s = absorbAll m (absorb b s) := rfl

@[simp] theorem absorbAll_ACTIVE (m : List Byte) (s : State) :
    (absorbAll m s).ACTIVE = s.ACTIVE :=
  foldl_proj (fun t b => absorb b t) State.ACTIVE (fun t b => absorb_ACTIVE t b) m s

@[simp] theorem absorbAll_pending (m : List Byte) (s : State) :
    (absorbAll m s).pending = s.pending :=
  foldl_proj (fun t b => absorb b t) State.pending (fun t b => absorb_pending t b) m s

/-- TOTBITS counts 8 bits a byte, wrapping (R24). -/
theorem absorbAll_TOTBITS (m : List Byte) (s : State) :
    (absorbAll m s).TOTBITS = s.TOTBITS + BitVec.ofNat 64 (8 * m.length) := by
  induction m generalizing s with
  | nil => simp
  | cons b m ih =>
    rw [absorbAll_cons, ih, absorb_TOTBITS, List.length_cons, Nat.mul_succ, Nat.add_comm,
      BitVec.ofNat_add, BitVec.add_assoc]
    rfl

/-- BUFLEN counts the bytes modulo 128 (R23). -/
theorem absorbAll_BUFLEN (m : List Byte) (s : State) :
    (absorbAll m s).BUFLEN.val = (s.BUFLEN.val + m.length) % 128 := by
  induction m generalizing s with
  | nil => exact (Nat.mod_eq_of_lt s.BUFLEN.isLt).symm
  | cons b m ih =>
    rw [absorbAll_cons, ih, absorb_BUFLEN, List.length_cons]
    omega

/-- Absorbing a byte does not look at the host's moves still to come. -/
theorem absorb_setPending (b : Byte) (s : State) (ms : List HostAction) :
    absorb b (s.setPending ms) = (absorb b s).setPending ms := by
  unfold absorb
  simp only [State.setPending_BUFLEN]
  split <;> rfl

/-- The run of one `UPDATE` a byte, on an active engine, absorbs the bytes in order (R223). -/
theorem run_updates (m : List Byte) (s : State) (rest : List HostAction) (ha : s.ACTIVE = true) :
    Sys2Proof.core.run m.length (s.setPending (commandMoves (m.map .update) ++ rest)) =
      .next (absorbAll m (s.setPending rest)) := by
  induction m generalizing s with
  | nil => rfl
  | cons b m ih =>
    have hstep : Sys2Proof.core.step (s.setPending (commandMoves ((b :: m).map .update) ++ rest)) =
        .next ((absorb b s).setPending (commandMoves (m.map .update) ++ rest)) := by
      rw [← absorb_setPending]
      refine (step_command (.update b) s _).trans ?_
      rw [exec_update_eq, State.setPending_ACTIVE, if_pos ha]
      rfl
    have hrun := ih (absorb b s) ((absorb_ACTIVE s b).trans ha)
    rw [← absorb_setPending b s rest] at hrun
    exact (run_succ_of_step Sys2Proof.core hstep m.length).trans hrun

/-- Settles O51: the run absorbs the bytes, and each counter is that of the absorbed list. -/
theorem updatesCountTheMessage : Obligations.UpdatesCountTheMessage := by
  intro s m rest ha
  refine ⟨absorbAll m (s.setPending rest), run_updates m s rest ha, ?_, ?_, ?_, ?_⟩
  · exact absorbAll_TOTBITS m (s.setPending rest)
  · exact absorbAll_BUFLEN m (s.setPending rest)
  · exact (absorbAll_ACTIVE m (s.setPending rest)).trans ha
  · exact absorbAll_pending m (s.setPending rest)

end Sys2Proof.Machine
end

section
/-! PROOFS. What `FINAL` depends on (spec 46_finalizer.md R200 to R211): the padded block is a function
of BUFLEN and the live bytes, the five stages overwrite LB and BB with functions of H, and so the
digest is the function `fin` of H after the padded block. -/

namespace Sys2Proof.Machine

/-- A fold of updates that each set one component of an indexed part of the state sets exactly the
components listed, when the value set does not depend on the updates before. -/
theorem foldl_component {ι α : Type} [DecidableEq ι] (f : State → ι → State)
    (get val : State → ι → α)
    (hget : ∀ s b c, get (f s b) c = if c = b then val s c else get s c)
    (hval : ∀ s b, val (f s b) = val s) (l : List ι) (s : State) (c : ι) :
    get (l.foldl f s) c = if c ∈ l then val s c else get s c := by
  induction l generalizing s with
  | nil => simp
  | cons b l ih =>
    rw [List.foldl_cons, ih, hval, hget]
    by_cases hl : c ∈ l
    · simp [hl]
    · simp [hl]

/-! ### Padding -/

/-- The bytes of the padded last block (R200): the live bytes, 0x80, zeros. -/
def State.paddedBytes (s : State) (a : Fin 128) : Byte :=
  if a < s.BUFLEN then s.BUF.read a else if a = s.BUFLEN then 0x80 else 0

/-- What the buffer holds after padding, whatever it held at BUFLEN and above (R200). -/
theorem padBuffer_bufBytes (s : State) : (padBuffer s).bufBytes = s.paddedBytes := by
  funext a
  have hfold := foldl_component (fun t n => State.storeByte t n 0) (fun t c => t.BUF.read c)
    (fun _ _ => 0) (fun t b c => by simp) (fun _ _ => rfl)
    ((List.finRange 128).filter (s.BUFLEN < ·)) (s.storeByte s.BUFLEN 0x80) a
  refine hfold.trans ?_
  simp only [List.mem_filter, List.mem_finRange, true_and, decide_eq_true_eq,
    State.storeByte_BUF, Memory.read_write, State.paddedBytes]
  rcases lt_trichotomy a s.BUFLEN with hlt | heq | hgt
  · simp [hlt, hlt.not_gt, hlt.ne]
  · simp [heq]
  · simp [hgt, hgt.not_gt, hgt.ne']

/-- Padding, parsing and compressing: H after the padded block (R201). -/
theorem compressBuffer_padBuffer_H (s : State) :
    (compressBuffer (padBuffer s)).H = compress s.H (parseBlock s.paddedBytes) := by
  rw [compressBuffer_H, padBuffer_H, padBuffer_bufBytes]

/-! ### The five stages -/

/-- The ten lanes a stage stores are functions of H and the salt: nothing of LB stays (R194). -/
theorem storeLanes_LB (cfg : Cfg) (S : Words5) (i : Fin 5) (s : State) :
    (storeLanes cfg S i s).LB = Vector.ofFn fun b : Fin 10 => stageLane cfg s.H S i b := by
  have hlane (c : Fin 10) : (storeLanes cfg S i s).LB[c] = stageLane cfg s.H S i c := by
    have hfold := foldl_component (fun t b => State.setLane t b (stageLane cfg t.H S i b))
      (fun t c => t.LB[c]) (fun t c => stageLane cfg t.H S i c)
      (fun t b c => by
        by_cases hc : c = b
        · simp [hc]
        · simp [hc, show ¬ b.val = c.val from fun e => hc (Fin.ext e.symm)])
      (fun _ _ => rfl) (List.finRange 10) s c
    exact hfold.trans (if_pos (List.mem_finRange c))
  ext1 k hk
  simpa using hlane ⟨k, hk⟩

/-- A stage writes its own sub-state, a function of H, and no other (R190 to R196). -/
theorem bigBox_BB (cfg : Cfg) (s : State) (i c : Fin 5) :
    (bigBox cfg s i).BB[c] = if c = i then stageSubState cfg s.H c else s.BB[c] := by
  simp only [bigBox, storeLanes_LB, State.setSubState_BB, storeLanes_BB]
  by_cases hc : c = i
  · simp [hc, stageSubState]
  · simp [hc, show ¬ i.val = c.val from fun e => hc (Fin.ext e.symm)]

/-- The five sub-states are functions of H: nothing of BB stays (R202). -/
theorem runStages_BB (cfg : Cfg) (s : State) : (runStages cfg s).BB = stages cfg s.H := by
  have hsub (c : Fin 5) : (runStages cfg s).BB[c] = stageSubState cfg s.H c := by
    have hfold := foldl_component (bigBox cfg) (fun t c => t.BB[c])
      (fun t c => stageSubState cfg t.H c) (bigBox_BB cfg)
      (fun t b => by simp only [bigBox_H]) (List.finRange 5) s c
    exact hfold.trans (if_pos (List.mem_finRange c))
  ext1 k hk
  simpa [stages] using hsub ⟨k, hk⟩

/-! ### The digest -/

/-- Everything after the padded block's compression is `fin` of H (R211). -/
theorem serialize_mixOutput_runStages (cfg : Cfg) (s : State) :
    serialize (mixOutput (runStages cfg s)).H = fin cfg s.H := by
  rw [mixOutput_H, runStages_BB, runStages_H, fin]

/-- `FINAL` on an active engine: the context zero, the flags and the host's side kept, and the digest
`fin` of H after the padded block (R208, R209, R211). -/
theorem finalize_eq_fin (cfg : Cfg) (s : State) : finalize cfg s =
    { s.wiped with
      DIGEST := fin cfg (compress s.H (parseBlock s.paddedBytes))
      DVALID := true } := by
  rw [finalize_eq, serialize_mixOutput_runStages, compressBuffer_padBuffer_H]
  rfl

/-- The padded block does not see the bytes at BUFLEN and above (R22, R200). -/
theorem paddedBytes_congr {s u : State} (hlen : s.BUFLEN = u.BUFLEN)
    (hlive : ∀ a : Fin 128, a < s.BUFLEN → s.BUF.read a = u.BUF.read a) :
    s.paddedBytes = u.paddedBytes := by
  funext a
  unfold State.paddedBytes
  rw [← hlen]
  by_cases ha : a < s.BUFLEN
  · rw [if_pos ha, if_pos ha, hlive a ha]
  · rw [if_neg ha, if_neg ha]

/-- Settles O53: `FINAL` reads H, the padded block, the flags and the host's side, and no more. -/
theorem digestIgnoresStaleBytesAndTotbits : Obligations.DigestIgnoresStaleBytesAndTotbits := by
  intro s u hs hu hH hlen hlive hill hseq hpending hreads
  rw [exec_final_eq, exec_final_eq, if_pos hs, if_pos hu, finalize_eq_fin, finalize_eq_fin, hH,
    paddedBytes_congr hlen hlive, State.wiped, State.wiped, hill, hseq, hpending, hreads]

end Sys2Proof.Machine
end

section
/-! PROOFS. The host's access (spec 20_memory.md R54, R56, R60): which accesses are refused, what a
write does, and that a defined move always completes. -/

namespace Sys2Proof.Machine

/-! ### What an access reaches -/

/-- The window is the 64 bytes from `cfg.BASE` (R57). -/
theorem offsetOfAddress_eq (cfg : Cfg) (addr : Nat) : offsetOfAddress cfg addr =
    if cfg.BASE ≤ addr ∧ addr ≤ cfg.BASE + 0x3F then some (addr - cfg.BASE) else none := by
  have hlast : addr < cfg.BASE + 64 ↔ addr ≤ cfg.BASE + 0x3F := by omega
  simp only [offsetOfAddress, hlast]

/-- Only slot 0 is `CMD` (R57). -/
theorem windowReg_ne_cmd {k : Fin 16} (hk : k ≠ 0) : windowReg k ≠ .cmd := by
  revert k
  decide

/-! ### What a move does -/

/-- A read or write that is not a 32-bit access at a multiple of 4 in the window is refused, by the
name that its offset gives (R54, D28). -/
theorem step_refuses_access {off n : Nat} (h : ¬ (n = 4 ∧ off % 4 = 0 ∧ off ≤ 0x3C)) (s : State)
    (v : Word32) (rest : List HostAction) :
    step (s.setPending (.write off n v :: rest)) =
      .refused (if off < 64 then .undefinedAccess off n else .outsideWindow off n) ∧
    step (s.setPending (.read off n :: rest)) =
      .refused (if off < 64 then .undefinedAccess off n else .outsideWindow off n) := by
  constructor
  · obtain ⟨off', n', ⟨v', hmove⟩ | hmove, hrefused⟩ :=
      perform_of_not_defined (a := .write off n v) (decide_eq_false h) (s.setPending rest)
    · cases hmove
      exact hrefused
    · cases hmove
  · obtain ⟨off', n', ⟨v', hmove⟩ | hmove, hrefused⟩ :=
      perform_of_not_defined (a := .read off n) (decide_eq_false h) (s.setPending rest)
    · cases hmove
    · cases hmove
      exact hrefused

/-- Every register but `CMD` ignores a write (R56). -/
theorem writeRegister_of_ne_cmd {r : WindowReg} (hr : r ≠ .cmd) (v : Word32) (s : State) :
    writeRegister r v s = .next s := by
  cases r with
  | cmd => exact absurd rfl hr
  | _ => rfl

/-- A legal word written to `CMD` is executed (R78). -/
theorem issueCommand_of_decode {w : Word32} {i : Instr} (h : decode w = .ok i) (s : State) :
    issueCommand w s = exec i s := by
  rw [issueCommand, h]

/-- A word written to `CMD` completes: executed, or rejected by `ERR_ILL` (R228, R241). -/
theorem issueCommand_total (w : Word32) (s : State) : ∃ t, issueCommand w s = .next t := by
  cases hw : decode w with
  | ok i => rw [issueCommand_of_decode hw]; exact exec_total i s
  | error e => exact ⟨s.raise .illegal, by rw [issueCommand, hw]⟩

theorem writeRegister_total (r : WindowReg) (v : Word32) (s : State) :
    ∃ t, writeRegister r v s = .next t := by
  by_cases hr : r = .cmd
  · subst hr
    exact issueCommand_total v s
  · exact ⟨s, writeRegister_of_ne_cmd hr v s⟩

/-- A defined move completes in every state: its access reaches a register (R54, R262). -/
theorem perform_of_defined {a : HostAction} (h : a.defined = true) (s : State) :
    ∃ t, perform a s = .next t := by
  cases a with
  | hardwareReset => exact ⟨s.hardwareReset, rfl⟩
  | write off n v =>
    obtain ⟨r, hr⟩ := (accessTarget_eq_register off n).2 (of_decide_eq_true h)
    simp only [perform, hr]
    exact writeRegister_total r v s
  | read off n =>
    obtain ⟨r, hr⟩ := (accessTarget_eq_register off n).2 (of_decide_eq_true h)
    exact ⟨s.pushRead (readRegister s r), by simp only [perform, hr]⟩

/-! ### The statements -/

/-- Settles O8: a step is idle or performs the next move, which completes when it is defined and is
refused when it is not. -/
theorem definedMovesNeverStop : Obligations.DefinedMovesNeverStop := by
  refine ⟨fun s hdef => ?_, fun s a rest ha => ?_⟩
  · cases hp : s.pending with
    | nil => exact ⟨s, by rw [step, State.fetch, hp]⟩
    | cons a rest =>
      rw [← s.setPending_self, hp, step_setPending]
      exact perform_of_defined (hdef a rest hp) _
  · rw [step_setPending]
    exact perform_of_not_defined ha _

/-- A 32-bit command word is its own table word (R70). -/
theorem tableWord_toNat (w : Word32) : tableWord 32 w.toNat = w := by
  rw [tableWord, Nat.mod_eq_of_lt w.isLt, BitVec.ofNat_toNat, BitVec.setWidth_eq]

/-- Settles O6: both steps perform the move that issues the word. -/
theorem stepRunsTheDecodedCommand : Obligations.StepRunsTheDecodedCommand := by
  intro s w i rest hw
  have issue (ms : List HostAction) :
      step (s.setPending (commandMove w :: ms)) = exec i (s.setPending ms) := by
    rw [step_setPending, perform_commandMove, issueCommand_of_decode hw]
  refine ⟨issue rest, ?_⟩
  rw [State.withFetchWord, tableWord_toNat, issue, State.setPending_self]

/-- Settles O9: the offset decides the name of the refusal, and the window's bounds the address. -/
theorem undefinedAccessesAreRefused : Obligations.UndefinedAccessesAreRefused := by
  intro s off n v rest
  refine ⟨fun hoff hn => ?_, fun hoff => ?_, fun cfg addr => ?_⟩
  · have hrefused := step_refuses_access (fun ⟨h4, hmod, _⟩ => hn ⟨h4, hmod⟩) s v rest
    rwa [if_pos hoff] at hrefused
  · have hrefused := step_refuses_access (off := off) (n := n) (by omega) s v rest
    rwa [if_neg (by omega)] at hrefused
  · rw [busWrite, busRead, offsetOfAddress_eq]
    split
    · exact ⟨rfl, rfl⟩
    · exact ⟨rfl, rfl⟩

/-- Settles O26: the slot's register is not `CMD`. -/
theorem otherWritesAreIgnored : Obligations.OtherWritesAreIgnored := by
  intro s v rest k hk
  rw [step_setPending]
  simp only [perform, accessTarget_slot]
  exact writeRegister_of_ne_cmd (windowReg_ne_cmd hk) v _

end Sys2Proof.Machine
end

section
/-! PROOFS. What the host can read (spec 20_memory.md R55, R58): the digest bytes and TOTBITS are in the
window, little-endian, and the context is not. -/

namespace Sys2Proof.Machine

/-! ### Little-endian composition -/

/-- Byte k of a word, as a number. -/
theorem toNat_byteAt {w : Nat} (x : BitVec w) (k : Nat) (hw : 8 ≤ w) :
    ((x >>> (8 * k)) &&& 0xFF#w).toNat = x.toNat / 2 ^ (8 * k) % 256 := by
  have hmask : (0xFF#w).toNat = 2 ^ 8 - 1 :=
    Nat.mod_eq_of_lt (lt_of_lt_of_le (by omega) (Nat.pow_le_pow_right (by omega) hw))
  rw [BitVec.toNat_and, hmask, Nat.and_two_pow_sub_one_eq_mod, BitVec.toNat_ushiftRight,
    Nat.shiftRight_eq_div_pow]

/-- Byte m of `DIGEST_Wj` is digest byte 4j + m (R30). -/
theorem digestWord_byteAt (d : Vector Byte 40) (j : Fin 10) (m : Fin 4) :
    ((digestWord d j >>> (8 * m.val)) &&& 0xFF).toNat = d[4 * j.val + m.val].toNat := by
  have h0 := d[4 * j.val].isLt
  have h1 := d[4 * j.val + 1].isLt
  have h2 := d[4 * j.val + 2].isLt
  have h3 := d[4 * j.val + 3].isLt
  rw [BitVec.ofNat_eq_ofNat, toNat_byteAt _ _ (by omega), digestWord_toNat]
  match m with
  | 0 => simp only [Fin.val_zero, Nat.mul_zero, Nat.add_zero]; omega
  | 1 => simp only [Fin.val_one]; omega
  | 2 => simp only [Fin.val_two]; omega
  | 3 => simp only [show ((3 : Fin 4) : Nat) = 3 from rfl]; omega

/-- Settles O27: byte n is byte `n mod 4` of word `n div 4`, and TOTBITS is its two halves. -/
theorem windowIsLittleEndian : Obligations.WindowIsLittleEndian := by
  refine fun s => ⟨fun n => ?_, ?_⟩
  · have hbyte := digestWord_byteAt s.DIGEST ⟨n.val / 4, by omega⟩ ⟨n.val % 4, by omega⟩
    simp only [Nat.div_add_mod] at hbyte
    exact hbyte.symm
  · have htot := s.TOTBITS.isLt
    rw [readRegister_totbitsLo, readRegister_totbitsHi, BitVec.toNat_ofNat, BitVec.toNat_ofNat]
    omega

/-! ### The context is not in the window -/

/-- No register shows H, BUF, LB or BB (R58). -/
theorem readRegister_withContext (s : State) (h : Words5) (m : Memory) (lb : Vector Lane 10)
    (bb : Vector Words5 5) (r : WindowReg) :
    readRegister { s with H := h, BUF := m, LB := lb, BB := bb } r = readRegister s r := by
  cases r <;> rfl

/-- A read step answers the value v exactly when it reaches a register that reads v. -/
theorem step_read_iff (s : State) (off n : Nat) (v : Word32) :
    step (s.setPending [.read off n]) = .next { s with pending := [], reads := s.reads ++ [v] } ↔
      ∃ r, accessTarget off n = .register r ∧ readRegister s r = v := by
  by_cases ht : ∃ r, accessTarget off n = .register r
  · obtain ⟨r, hr⟩ := ht
    rw [step_read hr, hr]
    simp
  · have hrefused := (step_refuses_access (mt (accessTarget_eq_register off n).2 ht) s v []).2
    rw [hrefused]
    exact ⟨fun h => (by cases h), fun ⟨r, hr, _⟩ => absurd ⟨r, hr⟩ ht⟩

/-- Settles O28: on both states the step answers v exactly when the register reached reads v, and
registers do not see the context. -/
theorem readsCannotSeeTheContext : Obligations.ReadsCannotSeeTheContext := by
  intro s h m lb bb off n v
  have hother := step_read_iff { s with H := h, BUF := m, LB := lb, BB := bb } off n v
  simp only [readRegister_withContext] at hother
  exact (step_read_iff s off n v).trans hother.symm

end Sys2Proof.Machine
end

section
/-! PROOFS. Bytes and words (spec 20_memory.md R52, R53): the block parser by value, the serialised
digest byte by byte, and its hexadecimal form. -/

namespace Sys2Proof.Machine

/-! ### Parsing -/

/-- The value of eight bytes, byte 0 the least significant (R107). -/
theorem bytesToU64_toNat (b : Fin 8 → Byte) :
    (bytesToU64 b).toNat = ∑ k : Fin 8, 2 ^ (8 * k.val) * (b k).toNat := by
  simp only [bytesToU64, toNat_append_eq_add, Fin.sum_univ_eight, Fin.coe_ofNat_eq_mod, Nat.reduceMod,
    Nat.reduceMul, Nat.reducePow]
  omega

/-- Word j of a block is its eight bytes from 8j (R52). -/
theorem parseBlock_getElem (bytes : Fin 128 → Byte) (j : Fin 16) :
    (parseBlock bytes)[j] = bytesToU64 fun k => bytes ⟨8 * j.val + k.val, by omega⟩ :=
  Vector.getElem_ofFn j.isLt

/-- Settles O34. -/
theorem blockParseIsLittleEndian : Obligations.BlockParseIsLittleEndian := by
  refine ⟨fun bytes j => ?_, ?_, ?_⟩
  · rw [parseBlock_getElem, bytesToU64_toNat]
  · exact (parseBlock_getElem _ 0).trans (by decide)
  · exact (parseBlock_getElem _ 15).trans (by decide)

/-! ### Serialisation -/

/-- Byte 8i + k of the digest is byte k of H[i] (R53). -/
theorem serialize_getElem (H : Words5) (i : Fin 5) (k : Fin 8) :
    (serialize H)[8 * i.val + k.val] = u64ToBytes H[i] k := by
  have hdiv : (8 * i.val + k.val) / 8 = i.val := by omega
  have hmod : (8 * i.val + k.val) % 8 = k.val := by omega
  simp only [serialize, Vector.getElem_ofFn, hdiv, hmod]
  rfl

/-- Byte k of a word is the word shifted and masked (R108). -/
theorem u64ToBytes_toNat (w : Word) (k : Fin 8) :
    (u64ToBytes w k).toNat = ((w >>> (8 * k.val)) &&& 0xFF).toNat := by
  rw [BitVec.ofNat_eq_ofNat, toNat_byteAt _ _ (by omega), u64ToBytes, BitVec.toNat_setWidth,
    BitVec.toNat_ushiftRight, Nat.shiftRight_eq_div_pow]

/-- The digest begins with the eight bytes of H[0]. -/
theorem serialize_take_eight (H : Words5) :
    (serialize H).toList.take 8 = List.ofFn (u64ToBytes H[0]) := by
  apply List.ext_getElem
  · simp
  · intro k hk _
    have hk8 : k < 8 := by simp at hk; omega
    have hbyte := serialize_getElem H 0 ⟨k, hk8⟩
    simp only [Fin.val_zero, Nat.mul_zero, Nat.zero_add] at hbyte
    simp only [List.getElem_take, Vector.getElem_toList, List.getElem_ofFn]
    exact hbyte

/-! ### The hexadecimal form -/

/-- The two digits of a byte. -/
def hexByte (b : Byte) : List Char := [hexDigit (b.toNat / 16), hexDigit (b.toNat % 16)]

theorem hexDigest_eq_flatMap (d : Vector Byte 40) : hexDigest d = d.toList.flatMap hexByte := rfl

/-- A digit of a value below 16 is one of 0-9 and a-f (R53). -/
theorem hexDigit_lower {n : Nat} (hn : n < 16) :
    ('0' ≤ hexDigit n ∧ hexDigit n ≤ '9') ∨ ('a' ≤ hexDigit n ∧ hexDigit n ≤ 'f') := by
  revert n
  decide

theorem hexByte_lower {b : Byte} {c : Char} (hc : c ∈ hexByte b) :
    ('0' ≤ c ∧ c ≤ '9') ∨ ('a' ≤ c ∧ c ≤ 'f') := by
  have hb := b.isLt
  obtain rfl | rfl : c = hexDigit (b.toNat / 16) ∨ c = hexDigit (b.toNat % 16) := by
    simpa [hexByte] using hc
  · exact hexDigit_lower (by omega)
  · exact hexDigit_lower (by omega)

theorem length_flatMap_hexByte (bs : List Byte) : (bs.flatMap hexByte).length = 2 * bs.length := by
  induction bs with
  | nil => rfl
  | cons b bs ih =>
    have hdigits : (hexByte b).length = 2 := rfl
    rw [List.flatMap_cons, List.length_append, hdigits, ih, List.length_cons]
    omega

/-- Two digits are one byte at the front of the form. -/
theorem take_flatMap_hexByte (bs : List Byte) (n : Nat) :
    (bs.flatMap hexByte).take (2 * n) = (bs.take n).flatMap hexByte := by
  induction bs generalizing n with
  | nil => simp
  | cons b bs ih =>
    cases n with
    | zero => rfl
    | succ n => simp [Nat.mul_succ, hexByte, ← ih]

theorem drop_flatMap_hexByte (bs : List Byte) (n : Nat) :
    (bs.flatMap hexByte).drop (2 * n) = (bs.drop n).flatMap hexByte := by
  induction bs generalizing n with
  | nil => simp
  | cons b bs ih =>
    cases n with
    | zero => rfl
    | succ n => simp [Nat.mul_succ, hexByte, ← ih]

/-- The digits at 2n and 2n + 1 are those of byte n (R53). -/
theorem hexDigest_pair (d : Vector Byte 40) (n : Fin 40) :
    ((hexDigest d).drop (2 * n.val)).take 2 = hexByte d[n] := by
  have hn : n.val < d.toList.length := by simp
  rw [hexDigest_eq_flatMap, drop_flatMap_hexByte]
  calc ((d.toList.drop n.val).flatMap hexByte).take (2 * 1)
      = ((d.toList.drop n.val).take 1).flatMap hexByte := take_flatMap_hexByte _ 1
    _ = hexByte d.toList[n.val] := by
        rw [List.drop_eq_getElem_cons hn, List.take_succ_cons, List.take_zero,
          List.flatMap_singleton]
    _ = hexByte d[n] := by simp

/-- Settles O48: bytes from the serialisation, digits from the bytes, and the example from the first
word alone. -/
theorem digestSerialisation : Obligations.DigestSerialisation := by
  refine ⟨fun H i k => ?_, fun d => ⟨?_, fun c hc => ?_, hexDigest_pair d⟩, fun H hH => ?_⟩
  · rw [serialize_getElem, u64ToBytes_toNat]
  · rw [hexDigest_eq_flatMap, length_flatMap_hexByte, Vector.length_toList]
  · rw [hexDigest_eq_flatMap] at hc
    obtain ⟨b, -, hb⟩ := List.mem_flatMap.1 hc
    exact hexByte_lower hb
  · have hfirst : (serialize H).toList.take 8 =
        [0xEF, 0xCD, 0xAB, 0x89, 0x67, 0x45, 0x23, 0x01] := by
      rw [serialize_take_eight, hH]
      decide
    refine ⟨hfirst, ?_⟩
    rw [hexDigest_eq_flatMap, take_flatMap_hexByte _ 8, hfirst]
    decide

end Sys2Proof.Machine
end

section
/-! PROOFS. Decoding and encoding (spec 30_encoding.md R71 to R77): the layout of a command word, the
legal fields, the legal words, and what an illegal word does to the machine. -/

namespace Sys2Proof.Machine

/-! ### The layout of a command word -/

/-- The three fields of a word are all of it (R71). -/
theorem wordOf_fieldsOf (w : Word32) : wordOf (fieldsOf w) = w := by
  have hhigh : w.extractLsb' 16 16 ++ w.extractLsb' 8 8 = w.extractLsb' 8 24 :=
    BitVec.extractLsb'_append_extractLsb'_eq_extractLsb' rfl
  have hall : w.extractLsb' 8 24 ++ w.extractLsb' 0 8 = w.extractLsb' 0 32 :=
    BitVec.extractLsb'_append_extractLsb'_eq_extractLsb' rfl
  simp only [wordOf, fieldsOf, hhigh, hall]
  exact BitVec.extractLsb'_eq_self

/-- A word has the fields f exactly when it is the word of f (R71). -/
theorem fieldsOf_eq_iff {w : Word32} {f : Fields} : fieldsOf w = f ↔ w = wordOf f := by
  constructor
  · rintro rfl
    exact (wordOf_fieldsOf w).symm
  · rintro rfl
    exact fieldsOf_wordOf f

/-- A bitwise and acts field by field. -/
theorem wordOf_and_wordOf (f g : Fields) : wordOf f &&& wordOf g =
    wordOf { rsv := f.rsv &&& g.rsv, data := f.data &&& g.data, op := f.op &&& g.op } := by
  simp only [wordOf, ← BitVec.and_append]

/-- The mask of the `UPDATE` row clears the data field and keeps the other two (R72). -/
theorem and_updateMask (w : Word32) :
    w &&& 0xFFFF00FF = wordOf { fieldsOf w with data := 0 } := by
  have hmask : (0xFFFF00FF : Word32) =
      wordOf { rsv := BitVec.allOnes 16, data := 0, op := BitVec.allOnes 8 } := by decide
  calc w &&& 0xFFFF00FF
      = wordOf (fieldsOf w) &&& 0xFFFF00FF := by rw [wordOf_fieldsOf]
    _ = wordOf { fieldsOf w with data := 0 } := by
        rw [hmask, wordOf_and_wordOf, BitVec.and_allOnes, BitVec.and_allOnes,
          BitVec.ofNat_eq_ofNat, BitVec.and_zero]

/-! ### Legal fields -/

/-- None of R74 (a), (b), (c) holds of the fields. -/
theorem fields_wellFormed_iff (f : Fields) : f.wellFormed = true ↔
    f.rsv = 0 ∧ f.op ∈ ([0x01, 0x02, 0x03, 0x04, 0x05] : List Byte) ∧ (f.op = 0x02 ∨ f.data = 0) := by
  simp [Fields.wellFormed, Fields.rsvZero, Fields.opKnown, Fields.dataAllowed, and_assoc, or_assoc]

/-- Every command is encoded in legal fields (R74). -/
theorem encodeFields_wellFormed (i : Instr) : (encodeFields i).wellFormed = true := by
  cases i with
  | init => exact Laws.EncodeLegal.init.1
  | update b => exact (Laws.EncodeLegal.update b).1
  | final => exact Laws.EncodeLegal.final.1
  | reset => exact Laws.EncodeLegal.reset.1
  | wipe => exact Laws.EncodeLegal.wipe.1

/-- Every command is well formed: its only operand is a byte of any value (R73). -/
theorem instr_wellFormed (i : Instr) : i.wellFormed = true := by
  cases i with
  | init => exact Laws.EncodeLegal.init.2
  | update b => exact (Laws.EncodeLegal.update b).2
  | final => exact Laws.EncodeLegal.final.2
  | reset => exact Laws.EncodeLegal.reset.2
  | wipe => exact Laws.EncodeLegal.wipe.2

/-- The legal fields are those of the commands, one operation code a command (R72). -/
theorem wellFormed_iff_exists_encodeFields (f : Fields) :
    f.wellFormed = true ↔ ∃ i, f = encodeFields i := by
  constructor
  · intro hf
    obtain ⟨rsv, data, op⟩ := f
    obtain ⟨hrsv, hop, hdata⟩ := (fields_wellFormed_iff _).1 hf
    obtain rfl : rsv = 0 := hrsv
    have hzero : op ≠ 0x02 → data = 0 := hdata.resolve_left
    simp only [List.mem_cons, List.not_mem_nil, or_false] at hop
    obtain rfl | rfl | rfl | rfl | rfl := hop
    · exact ⟨.init, by rw [hzero (by decide)]; rfl⟩
    · exact ⟨.update data, rfl⟩
    · exact ⟨.final, by rw [hzero (by decide)]; rfl⟩
    · exact ⟨.reset, by rw [hzero (by decide)]; rfl⟩
    · exact ⟨.wipe, by rw [hzero (by decide)]; rfl⟩
  · rintro ⟨i, rfl⟩
    exact encodeFields_wellFormed i

/-! ### The decoder -/

/-- Only legal fields decode (R74). -/
theorem wellFormed_of_decodeFields {f : Fields} {i : Instr} (h : decodeFields f = .ok i) :
    f.wellFormed = true := by
  cases hrsv : f.rsvZero with
  | false => simp [decodeFields, hrsv] at h
  | true =>
    cases hop : f.opKnown with
    | false => simp [decodeFields, hrsv, hop] at h
    | true =>
      cases hdata : f.dataAllowed with
      | false => simp [decodeFields, hrsv, hop, hdata] at h
      | true => rw [Fields.wellFormed, hrsv, hop, hdata]; rfl

/-- A word decodes to a command exactly when it is the command's encoding. -/
theorem decode_eq_ok_iff (w : Word32) (i : Instr) : decode w = .ok i ↔ w = encode i := by
  constructor
  · intro h
    obtain ⟨j, hj⟩ := (wellFormed_iff_exists_encodeFields _).1 (wellFormed_of_decodeFields h)
    have hw : w = encode j := fieldsOf_eq_iff.1 hj
    have hij : i = j := Except.ok.inj (h.symm.trans (hw ▸ decode_encode j))
    rw [hw, hij]
  · rintro rfl
    exact decode_encode i

/-- No two commands have one word. -/
theorem encode_injective : Function.Injective encode := fun i j h =>
  Except.ok.inj ((decode_encode i).symm.trans (h ▸ decode_encode j))

/-- Settles O1: every command is well formed, so its encoding alone decides. -/
theorem decodeAgreesWithEncode : Obligations.DecodeAgreesWithEncode := fun w i => by
  rw [decode_eq_ok_iff, and_iff_right (instr_wellFormed i)]

/-! ### The rows of the table -/

/-- The row of a command without operand: the mask keeps the whole word (R72). -/
theorem decode_eq_ok_iff_row (w : Word32) (i : Instr) :
    decode w = .ok i ↔ w &&& 0xFFFFFFFF = encode i := by
  have hmask : (0xFFFFFFFF : Word32) = BitVec.allOnes 32 := rfl
  rw [decode_eq_ok_iff, hmask, BitVec.and_allOnes]

/-- The row of `UPDATE`: the mask leaves out the operand, which stands in bits 15:8 (R72, R73). -/
theorem decode_eq_update_iff_row (w : Word32) (b : Byte) : decode w = .ok (.update b) ↔
    w &&& 0xFFFF00FF = 0x00000002 ∧ b = w.extractLsb' 8 8 := by
  have hmatch : (0x00000002 : Word32) = wordOf { rsv := 0, data := 0, op := 0x02 } := by decide
  rw [decode_eq_ok_iff, encode, ← fieldsOf_eq_iff, and_updateMask, hmatch, ← fieldsOf_eq_iff,
    fieldsOf_wordOf]
  simp only [encodeFields, fieldsOf, Fields.mk.injEq, true_and]
  constructor
  · rintro ⟨hrsv, hdata, hop⟩
    exact ⟨⟨hrsv, hop⟩, hdata.symm⟩
  · rintro ⟨⟨hrsv, hop⟩, hdata⟩
    exact ⟨hrsv, hdata.symm, hop⟩

/-- Settles O2: row by row. -/
theorem commandsAreTheTableRows : Obligations.CommandsAreTheTableRows := fun w =>
  ⟨decode_eq_ok_iff_row w .init, decode_eq_update_iff_row w, decode_eq_ok_iff_row w .final,
    decode_eq_ok_iff_row w .reset, decode_eq_ok_iff_row w .wipe⟩

/-! ### Illegal words -/

/-- Among the five operation codes, those without operand are the ones that are not `UPDATE`'s. -/
theorem opcode_without_operand_iff {op : Byte}
    (h : op ∈ ([0x01, 0x02, 0x03, 0x04, 0x05] : List Byte)) :
    op ∈ ([0x01, 0x03, 0x04, 0x05] : List Byte) ↔ op ≠ 0x02 := by
  revert op
  decide

/-- The three clauses of R74 are those of the model's check on fields. -/
theorem illegalWord_iff_not_wellFormed (w : Word32) :
    illegalWord w ↔ ¬ (fieldsOf w).wellFormed = true := by
  rw [fields_wellFormed_iff, not_and_or, not_and_or, not_or]
  refine or_congr_right (or_congr_right' fun hop => ?_)
  rw [opcode_without_operand_iff (not_not.1 hop)]
  rfl

/-- The legal words are the encodings of the commands (R72, R74). -/
theorem legal_iff_exists_encode (w : Word32) : ¬ illegalWord w ↔ ∃ i, w = encode i := by
  rw [illegalWord_iff_not_wellFormed, not_not, wellFormed_iff_exists_encodeFields]
  exact exists_congr fun i => fieldsOf_eq_iff

/-- The legal words are those that decode (R74). -/
theorem legal_iff_exists_decode (w : Word32) : ¬ illegalWord w ↔ ∃ i, decode w = .ok i := by
  simp only [legal_iff_exists_encode, decode_eq_ok_iff]

/-- A word is legal exactly when it matches a row of the table (R72, R74). -/
theorem legal_iff_row (w : Word32) : ¬ illegalWord w ↔
    (w &&& 0xFFFFFFFF = 0x00000001 ∨ w &&& 0xFFFF00FF = 0x00000002 ∨
     w &&& 0xFFFFFFFF = 0x00000003 ∨ w &&& 0xFFFFFFFF = 0x00000004 ∨
     w &&& 0xFFFFFFFF = 0x00000005) := by
  obtain ⟨hinit, hupdate, hfinal, hreset, hwipe⟩ := commandsAreTheTableRows w
  rw [legal_iff_exists_decode, ← hinit, ← hfinal, ← hreset, ← hwipe]
  constructor
  · rintro ⟨i, hi⟩
    cases i with
    | init => exact .inl hi
    | update b => exact .inr (.inl ((hupdate b).1 hi).1)
    | final => exact .inr (.inr (.inl hi))
    | reset => exact .inr (.inr (.inr (.inl hi)))
    | wipe => exact .inr (.inr (.inr (.inr hi)))
  · rintro (h | h | h | h | h)
    · exact ⟨_, h⟩
    · exact ⟨_, (hupdate _).2 ⟨h, rfl⟩⟩
    · exact ⟨_, h⟩
    · exact ⟨_, h⟩
    · exact ⟨_, h⟩

/-! ### The number of legal words -/

/-- Every command, once: `UPDATE` with each of its 256 operands, and the four others. -/
def allCommands : List Instr :=
  (List.finRange 256).map (fun n => .update (BitVec.ofFin n)) ++ [.init, .final, .reset, .wipe]

theorem mem_allCommands (i : Instr) : i ∈ allCommands := by
  cases i with
  | update b =>
    exact List.mem_append_left _ (List.mem_map.2 ⟨b.toFin, List.mem_finRange _, rfl⟩)
  | _ => exact List.mem_append_right _ (by decide)

theorem allCommands_nodup : allCommands.Nodup := by
  have hupdates : ((List.finRange 256).map fun n => Instr.update (BitVec.ofFin n)).Nodup :=
    (List.nodup_finRange 256).map fun m n h => BitVec.ofFin.inj (Instr.update.inj h)
  refine hupdates.append (by decide) fun i hu hrest => ?_
  obtain ⟨n, -, rfl⟩ := List.mem_map.1 hu
  simp at hrest

theorem length_allCommands : allCommands.length = 260 := by
  simp [allCommands]

/-- The words of all commands, once each, are the 260 legal words (R74). -/
theorem exists_list_of_legal_words :
    ∃ ws : List Word32, ws.Nodup ∧ ws.length = 260 ∧ ∀ w, w ∈ ws ↔ ¬ illegalWord w := by
  refine ⟨allCommands.map encode, allCommands_nodup.map encode_injective,
    (List.length_map _).trans length_allCommands, fun w => ?_⟩
  rw [legal_iff_exists_encode, List.mem_map]
  constructor
  · rintro ⟨i, -, rfl⟩
    exact ⟨i, rfl⟩
  · rintro ⟨i, rfl⟩
    exact ⟨i, mem_allCommands i, rfl⟩

/-! ### What a word does to the machine -/

/-- No command is a no-operation: one that starts a hash or misses its phase changes the reset state,
`WIPE` ends a hash in progress (R74). -/
theorem exec_changes_some_state (i : Instr) : ∃ s t : State, exec i s = .next t ∧ t ≠ s := by
  have hactive : (startHash Config.cfg State.reset) ≠ State.reset := fun h => by
    simpa using congrArg State.ACTIVE h
  have hseq : State.reset.raise .sequence ≠ State.reset := fun h => by
    cases congrArg State.ERR_SEQ h
  cases i with
  | init => exact ⟨State.reset, _, rfl, hactive⟩
  | update b => exact ⟨State.reset, _, exec_update_eq b _, hseq⟩
  | final => exact ⟨State.reset, _, exec_final_eq _, hseq⟩
  | reset => exact ⟨State.reset, _, rfl, hactive⟩
  | wipe => exact ⟨State.reset.setActive true, _, rfl, fun h => by cases congrArg State.ACTIVE h⟩

/-- An illegal word written to `CMD` raises `ERR_ILL` (R241). -/
theorem issueCommand_of_illegalWord {w : Word32} (h : illegalWord w) (s : State) :
    issueCommand w s = .next (s.raise .illegal) := by
  cases hw : decode w with
  | ok i => exact absurd h ((legal_iff_exists_decode w).2 ⟨i, hw⟩)
  | error e => rw [issueCommand, hw]

/-- Settles O3: an illegal word decodes to no command, so its step can only raise `ERR_ILL`. -/
theorem illegalWordsOnlySetErrIll : Obligations.IllegalWordsOnlySetErrIll := by
  refine ⟨fun w => ?_, legal_iff_row, exists_list_of_legal_words, by decide,
    exec_changes_some_state, fun w s rest hw => ?_⟩
  · rw [← legal_iff_exists_decode, not_not]
  · calc step (s.setPending (commandMove w :: rest))
        = issueCommand w (s.setPending rest) := by rw [step_setPending, perform_commandMove]
      _ = .next ((s.setPending rest).raise .illegal) := issueCommand_of_illegalWord hw _

/-! ### Examples and pseudo-commands -/

/-- Settles O4: each word is the encoding of its command. -/
theorem exampleWordsDecode : Obligations.ExampleWordsDecode :=
  ⟨decode_encode .init, decode_encode (.update 0x61), decode_encode (.update 0x00),
    decode_encode (.update 0xFF), decode_encode .final, decode_encode .reset, decode_encode .wipe⟩

/-- The words of any list of commands decode back to it (R78). -/
theorem map_decode_map_encode (is : List Instr) : (is.map encode).map decode = is.map .ok := by
  rw [List.map_map]
  exact List.map_congr_left fun i _ => decode_encode i

/-- Settles O5: the expansions are the lists of R77. -/
theorem pseudoCommandsExpand : Obligations.PseudoCommandsExpand := fun _ =>
  ⟨rfl, rfl, map_decode_map_encode _⟩

end Sys2Proof.Machine
end

section
/-! PROOFS. Word primitives (spec 40_word_primitives.md R104, R105, R107, R108, R111, R113): a
rotation moves the bit at index i - n or i + n, in the group of bit indices modulo 64, to index i; a
byte is a base-256 digit. -/

namespace Sys2Proof.Machine

/-! ### Rotations -/

/-- Rotation to the left by shifts (R104). -/
theorem rotl_of_ne_zero {n : Count} (hn : n ≠ 0) (x : Word) :
    rotl x n = (x <<< n.val) ||| (x >>> (64 - n.val)) := if_neg hn

/-- Rotation to the right by shifts (R105). -/
theorem rotr_of_ne_zero {n : Count} (hn : n ≠ 0) (x : Word) :
    rotr x n = (x >>> n.val) ||| (x <<< (64 - n.val)) := if_neg hn

/-- The model's left rotation is the library's, also by 0. -/
theorem rotl_eq_rotateLeft (x : Word) (n : Count) : rotl x n = x.rotateLeft n.val := by
  by_cases hn : n = 0
  · subst hn
    simp [BitVec.rotateLeft_def, BitVec.ushiftRight_eq_zero]
  · rw [rotl_of_ne_zero hn, BitVec.rotateLeft_def, Nat.mod_eq_of_lt n.isLt]

/-- The model's right rotation is the library's, also by 0. -/
theorem rotr_eq_rotateRight (x : Word) (n : Count) : rotr x n = x.rotateRight n.val := by
  by_cases hn : n = 0
  · subst hn
    simp [BitVec.rotateRight_def]
  · rw [rotr_of_ne_zero hn, BitVec.rotateRight_def, Nat.mod_eq_of_lt n.isLt]

/-- Left rotation carries bit i - n to bit i; the difference is taken modulo 64. -/
theorem rotl_getLsb (x : Word) (n : Count) (i : Fin 64) :
    (rotl x n).getLsb i = x.getLsb (i - n) := by
  simp only [rotl_eq_rotateLeft, BitVec.getLsb_eq_getElem, Fin.getElem_fin,
    BitVec.getElem_rotateLeft, Fin.val_sub, Nat.mod_eq_of_lt n.isLt]
  split
  · congr 1; omega
  · congr 1; omega

/-- Right rotation carries bit i + n to bit i; the sum is taken modulo 64. -/
theorem rotr_getLsb (x : Word) (n : Count) (i : Fin 64) :
    (rotr x n).getLsb i = x.getLsb (i + n) := by
  simp only [rotr_eq_rotateRight, BitVec.getLsb_eq_getElem, Fin.getElem_fin,
    BitVec.getElem_rotateRight, Fin.val_add, Nat.mod_eq_of_lt n.isLt]
  split
  · congr 1; omega
  · congr 1; omega

/-- Two words with the same bits, the index in the group modulo 64, are equal. -/
theorem word_ext {x y : Word} (h : ∀ i : Fin 64, x.getLsb i = y.getLsb i) : x = y :=
  BitVec.eq_of_getElem_eq fun i hi => h ⟨i, hi⟩

/-- Right rotation is left rotation by the opposite count. -/
theorem rotr_eq_rotl_neg (x : Word) (n : Count) : rotr x n = rotl x (-n) :=
  word_ext fun i => by rw [rotr_getLsb, rotl_getLsb, sub_neg_eq_add]

/-- The opposite of a count is 64 less it, counted modulo 64. -/
theorem count_sixtyFour_sub (n : Count) : count (64 - n.val) = -n := by
  apply Fin.ext
  simp [count, Fin.val_neg']

@[simp] theorem rotr_rotl (x : Word) (n : Count) : rotr (rotl x n) n = x :=
  word_ext fun i => by rw [rotr_getLsb, rotl_getLsb, add_sub_cancel_right]

@[simp] theorem rotl_rotr (x : Word) (n : Count) : rotl (rotr x n) n = x :=
  word_ext fun i => by rw [rotl_getLsb, rotr_getLsb, sub_add_cancel]

/-- Settles O29: 64 - n is the opposite of n modulo 64. -/
theorem rightRotationIsLeftRotation : Obligations.RightRotationIsLeftRotation := by
  refine ⟨fun x => ⟨rotr_by_zero x, rotl_by_zero x⟩,
    fun x n hn => ⟨rotr_of_ne_zero hn x, ?_⟩, by decide⟩
  rw [count_sixtyFour_sub, rotr_eq_rotl_neg]

/-- Settles O30: i + n - n and i - n + n are both i modulo 64. -/
theorem rotationsUndoEachOther : Obligations.RotationsUndoEachOther := fun x n =>
  ⟨rotr_rotl x n, rotl_rotr x n⟩

/-- Settles O31: 19 and 45 are opposite modulo 64, and the shifts are R104's. -/
theorem gammaRotationReadingsAgree : Obligations.GammaRotationReadingsAgree := by
  intro r
  have hneg : (-45 : Count) = 19 := by decide
  have hopposite : rotr r 45 = rotl r 19 := by rw [rotr_eq_rotl_neg, hneg]
  have hshifts : r <<< 19 ||| r >>> 45 = rotl r 19 :=
    (rotl_of_ne_zero (n := 19) (by decide) r).symm
  exact ⟨by rw [hopposite, BitVec.or_self], hshifts⟩

/-! ### Bytes and words -/

/-- Byte k of a word is its k-th digit in base 256. -/
theorem u64ToBytes_toNat_eq_digit (w : Word) (k : Fin 8) :
    (u64ToBytes w k).toNat = w.toNat / 2 ^ (8 * k.val) % 256 :=
  (u64ToBytes_toNat w k).trans (toNat_byteAt w k.val (by decide))

/-- The value of eight bytes as R107 writes it. -/
theorem bytesToU64_toNat_eq (b : Fin 8 → Byte) : (bytesToU64 b).toNat =
    (b 0).toNat + 2 ^ 8 * (b 1).toNat + 2 ^ 16 * (b 2).toNat + 2 ^ 24 * (b 3).toNat +
    2 ^ 32 * (b 4).toNat + 2 ^ 40 * (b 5).toNat + 2 ^ 48 * (b 6).toNat + 2 ^ 56 * (b 7).toNat := by
  rw [bytesToU64_toNat, Fin.sum_univ_eight]
  norm_num

/-- A word is the sum of its digits. -/
theorem bytesToU64_u64ToBytes (w : Word) : bytesToU64 (u64ToBytes w) = w := by
  apply BitVec.eq_of_toNat_eq
  simp only [bytesToU64_toNat_eq, u64ToBytes_toNat_eq_digit, Fin.coe_ofNat_eq_mod, Nat.reduceMod,
    Nat.reduceMul, Nat.reducePow]
  omega

/-- The digits of a sum of bytes are the bytes. -/
theorem u64ToBytes_bytesToU64 (b : Fin 8 → Byte) : u64ToBytes (bytesToU64 b) = b := by
  funext k
  apply BitVec.eq_of_toNat_eq
  rw [u64ToBytes_toNat_eq_digit, bytesToU64_toNat_eq]
  fin_cases k <;> simp <;> omega

/-- Settles O32. -/
theorem byteConvertersAreInverse : Obligations.ByteConvertersAreInverse :=
  ⟨bytesToU64_toNat_eq, u64ToBytes_toNat, bytesToU64_u64ToBytes, u64ToBytes_bytesToU64,
    by decide, by decide⟩

/-! ### Permutations -/

/-- Element d of a permutation is the source that two bits of the pattern name (R111). -/
theorem permute_get (V : Vec4) (pat : Byte) (d : Fin 4) :
    (permute V pat).get d = V.get (Fin.ofNat 4 ((pat.toNat >>> (2 * d.val)) &&& 3)) := by
  have hmask (m : Nat) : Fin.ofNat 4 (m &&& 3) = Fin.ofNat 4 m :=
    Fin.ext ((congrArg (· % 4) (Nat.and_two_pow_sub_one_eq_mod m 2)).trans (Nat.mod_mod m 4))
  rw [permute, Vec4.get_ofFn, hmask, BitVec.toNat_ushiftRight]

/-- Settles O33: in each of the six patterns the four source indices are literals. -/
theorem permutePatterns : Obligations.PermutePatterns := fun V =>
  ⟨permute_get V, rfl, rfl, rfl, rfl, rfl, rfl⟩

end Sys2Proof.Machine
end

section
/-! PROOFS. Block compressor (spec 42_block_compressor.md R142, R143): the state after each iteration,
and the block words that the iterations read. -/

namespace Sys2Proof.Machine

/-! ### The state as it stands -/

/-- Five words are the list of their entries. -/
theorem words5_eq_literal (H : Words5) : H = #v[H[0], H[1], H[2], H[3], H[4]] := by
  ext k hk
  interval_cases k <;> rfl

/-- The five iterations in ascending i (R141). -/
theorem compress_eq_steps (H : Words5) (B : Block) : compress H B =
    compressStep B (compressStep B (compressStep B (compressStep B (compressStep B H 0) 1) 2) 3) 4 :=
  rfl

/-! One equation per iteration, a row of R142's table: the two neighbours are read in the words that
the iteration finds. -/

section Iterations
variable (B : Block) (a b c d e : Word)

theorem compressStep_zero : compressStep B #v[a, b, c, d, e] 0 =
    #v[compressWord a B[0] B[5] B[10] b e, b, c, d, e] := rfl

theorem compressStep_one : compressStep B #v[a, b, c, d, e] 1 =
    #v[a, compressWord b B[1] B[6] B[11] c a, c, d, e] := rfl

theorem compressStep_two : compressStep B #v[a, b, c, d, e] 2 =
    #v[a, b, compressWord c B[2] B[7] B[12] d b, d, e] := rfl

theorem compressStep_three : compressStep B #v[a, b, c, d, e] 3 =
    #v[a, b, c, compressWord d B[3] B[8] B[13] e c, e] := rfl

theorem compressStep_four : compressStep B #v[a, b, c, d, e] 4 =
    #v[a, b, c, d, compressWord e B[4] B[9] B[14] a d] := rfl

end Iterations

/-- Settles O35: the iterations run one after another, each on the words the one before it left. -/
theorem compressReadsTheStateAsItStands : Obligations.CompressReadsTheStateAsItStands := by
  intro H B h0 h1 h2 h3 h4
  calc compress H B
    _ = compress #v[H[0], H[1], H[2], H[3], H[4]] B :=
      congrArg (compress · B) (words5_eq_literal H)
    _ = #v[h0, h1, h2, h3, h4] := by
      rw [compress_eq_steps, compressStep_zero, compressStep_one, compressStep_two,
        compressStep_three, compressStep_four]

/-! ### The block words read -/

/-- An iteration reads the block at i, i + 5 and i + 10, all below 15 (R141). -/
theorem compressStep_congr {B B' : Block} (h : ∀ (j : Nat) (_ : j < 15), B[j] = B'[j]) :
    compressStep B = compressStep B' := by
  funext H i
  rw [compressStep, compressStep, h i.val (by omega), h (i.val + 5) (by omega),
    h (i.val + 10) (by omega)]

/-- The compressor reads no block word but the first fifteen (R141). -/
theorem compress_congr {B B' : Block} (h : ∀ (j : Nat) (_ : j < 15), B[j] = B'[j]) (H : Words5) :
    compress H B = compress H B' := by
  rw [compress, compress, compressStep_congr h]

/-- Settles O36: a write to word 15 leaves the first fifteen words. -/
theorem compressIgnoresTheLastWord : Obligations.CompressIgnoresTheLastWord := fun H _ _ =>
  compress_congr (fun _ hj => Vector.getElem_set_ne (by decide) (by omega) (by omega)) H

end Sys2Proof.Machine
end

section
/-! PROOFS. Salt generator (spec 43_salt_generator.md R150 to R157): the counter of each round, the words
of the work array that the salt depends on, and the one salt that the five stages see. -/

namespace Sys2Proof.Machine

/-! ### The counter -/

/-- A round steps the counter once, whatever the work array and the round's number (R152, D13). -/
@[simp] theorem saltRound_counter (st : SaltArray × Word) (r : Nat) :
    (saltRound st r).2 = st.2 + saltCounterStep := rfl

/-- Settles O38, by induction on the number of rounds. -/
theorem saltCounterAdvancesByRound : Obligations.SaltCounterAdvancesByRound := by
  intro s c r
  induction r with
  | zero => simp
  | succ r ih =>
    rw [List.range_succ, List.foldl_append, List.foldl_cons, List.foldl_nil, saltRound_counter, ih,
      saltCounterStep, BitVec.ofNat_add, BitVec.add_mul, BitVec.add_assoc]
    rfl

/-! ### The words the salt depends on

A round reads, for a word below 8, that word and another below 8, and the finish reads words below 8
only. Round 0 overwrites word 0 with `s[3]` plus the counter before any other word reads it: its left
rotation has count 0, so the two copies of `s[0]` cancel. -/

/-- Two work arrays agree on the words from `lo` up to word 7. -/
def SaltAgree (lo : Nat) (s u : SaltArray) : Prop :=
  ∀ (k : Nat) (_ : k < 8), lo ≤ k → s[k] = u[k]

/-- The word that an update writes (R152). -/
theorem saltWord_self (c : Word) (r : Nat) (s : SaltArray) (j : Fin 32) : (saltWord c r s j)[j.val] =
    (s[j] ^^^ (rotl s[j] (count (j.val * 7 + r * 3)) ^^^
      rotr s[(j.val + 3) % 8] (count (j.val * 5 + r * 2)))) + c :=
  Vector.getElem_set_self j.isLt

/-- An update writes no other word (R152). -/
theorem saltWord_of_ne (c : Word) (r : Nat) (s : SaltArray) {j : Fin 32} {k : Nat} (hk : k < 32)
    (hj : j.val ≠ k) : (saltWord c r s j)[k] = s[k] :=
  Vector.getElem_set_ne j.isLt hk hj

/-- Word 0 in round 0: the old word 0 cancels. -/
theorem saltWord_zero_zero (c : Word) (s : SaltArray) : (saltWord c 0 s 0)[0] = s[3] + c := by
  have hright : rotr s[3] 0 = s[3] := if_pos rfl
  calc (saltWord c 0 s 0)[0]
    _ = (s[0] ^^^ (rotl s[0] 0 ^^^ rotr s[3] 0)) + c := saltWord_self c 0 s 0
    _ = s[3] + c := by
      rw [rotl_by_zero, hright, ← BitVec.xor_assoc, BitVec.xor_self, BitVec.zero_xor]

/-- Every update of every round keeps the agreement on words 0 to 7. -/
theorem SaltAgree.word {s u : SaltArray} (h : SaltAgree 0 s u) (c : Word) (r : Nat) (j : Fin 32) :
    SaltAgree 0 (saltWord c r s j) (saltWord c r u j) := by
  intro k hk _
  by_cases hj : j.val = k
  · subst hj
    have hself : s[j] = u[j] := h j.val hk (Nat.zero_le _)
    have hread : s[(j.val + 3) % 8] = u[(j.val + 3) % 8] := h _ (by omega) (Nat.zero_le _)
    rw [saltWord_self, saltWord_self, hself, hread]
  · rw [saltWord_of_ne c r s (by omega) hj, saltWord_of_ne c r u (by omega) hj,
      h k hk (Nat.zero_le _)]

/-- The first update of round 0 needs no agreement on word 0, and makes it. -/
theorem SaltAgree.firstWord {s u : SaltArray} (h : SaltAgree 1 s u) (c : Word) :
    SaltAgree 0 (saltWord c 0 s 0) (saltWord c 0 u 0) := by
  intro k hk _
  by_cases hk0 : k = 0
  · subst hk0
    rw [saltWord_zero_zero, saltWord_zero_zero, h 3 (by omega) (by omega)]
  · have hne : (0 : Fin 32).val ≠ k := fun e => hk0 e.symm
    rw [saltWord_of_ne c 0 s (by omega) hne, saltWord_of_ne c 0 u (by omega) hne,
      h k hk (by omega)]

/-- Round 0 drops word 0 (R157 (b)). -/
theorem SaltAgree.firstRound {s u : SaltArray} (h : SaltAgree 1 s u) (c : Word) :
    SaltAgree 0 (saltRound (s, c) 0).1 (saltRound (u, c) 0).1 := by
  simp only [saltRound, List.finRange_succ (n := 31), List.foldl_cons]
  exact List.foldl_rel (h.firstWord c) fun j _ _ _ hst => hst.word c 0 j

/-- Any rounds, from equal counters, keep the agreement on words 0 to 7. -/
theorem SaltAgree.rounds (rs : List Nat) {st su : SaltArray × Word} (h : SaltAgree 0 st.1 su.1)
    (hc : st.2 = su.2) : SaltAgree 0 (rs.foldl saltRound st).1 (rs.foldl saltRound su).1 := by
  induction rs generalizing st su with
  | nil => exact h
  | cons r rs ih =>
    have hround : SaltAgree 0 (saltRound st r).1 (saltRound su r).1 := by
      rw [saltRound, saltRound, ← hc]
      exact List.foldl_rel h fun j _ _ _ hst => hst.word st.2 r j
    have hcounter : (saltRound st r).2 = (saltRound su r).2 := by
      rw [saltRound_counter, saltRound_counter, hc]
    rw [List.foldl_cons, List.foldl_cons]
    exact ih hround hcounter

/-- The seven rounds (R152), round 0 first, from one first counter value (R153). -/
theorem SaltAgree.allRounds {s u : SaltArray} (h : SaltAgree 1 s u) {cfg cfg' : Cfg}
    (hc : cfg.SALT_COUNTER_INIT = cfg'.SALT_COUNTER_INIT) :
    SaltAgree 0 (saltRounds cfg s) (saltRounds cfg' u) := by
  rw [saltRounds, saltRounds, ← hc, List.range_succ_eq_map, List.foldl_cons, List.foldl_cons]
  exact (h.firstRound _).rounds _ (by rw [saltRound_counter, saltRound_counter])

/-- The finish reads words 0 to 7 only (R155). -/
theorem SaltAgree.finish {s u : SaltArray} (h : SaltAgree 0 s u) : saltFinish s = saltFinish u := by
  refine congrArg Vector.ofFn (funext fun i => ?_)
  rw [h i.val (by omega) (by omega), h ((i.val + 3) % 8) (by omega) (by omega)]

/-- The work array before the rounds (R150, R151). -/
theorem saltStart_getElem (cfg : Cfg) (H : Words5) (k : Nat) (hk : k < 32) :
    (saltStart cfg H)[k] =
      if h : k < 5 then cfg.SEED[k] ^^^ H[k] else cfg.SEED[k] := by
  simp [saltStart, seed]

/-- Settles O37: the start arrays agree on words 1 to 7, and round 0 drops word 0. -/
theorem saltDependsOnlyOn : Obligations.SaltDependsOnlyOn := by
  intro cfg cfg' H H' hH hseed hc
  have hstart : SaltAgree 1 (saltStart cfg H) (saltStart cfg' H') := by
    intro k hk hlo
    have hs : cfg.SEED[k] = cfg'.SEED[k] := hseed ⟨k, by omega⟩ hlo (Nat.le_of_lt_succ hk)
    rw [saltStart_getElem, saltStart_getElem, hs]
    split
    next hk5 =>
      have hh : H[k] = H'[k] := hH ⟨k, hk5⟩ (Fin.ne_of_val_ne (Nat.ne_of_gt hlo))
      rw [hh]
    next => rfl
  exact (hstart.allRounds hc).finish

/-! ### One hash state and one salt for the five stages -/

/-- A stage replaces all ten lanes, by functions of H (R192 to R194). -/
theorem bigBox_LB_eq (cfg : Cfg) (s : State) (i : Fin 5) : (bigBox cfg s i).LB =
    Vector.ofFn fun b : Fin 10 => stageLane cfg s.H (saltGen cfg s.H) i b := by
  rw [bigBox_LB, storeLanes_LB]

/-- The five stages in ascending order (R202). -/
theorem runStages_eq_steps (cfg : Cfg) (s : State) : runStages cfg s =
    bigBox cfg (bigBox cfg (bigBox cfg (bigBox cfg (bigBox cfg s 0) 1) 2) 3) 4 := rfl

/-- The lanes left are those of stage 4, whose H is the H before the stages (R202). -/
theorem runStages_LB (cfg : Cfg) (s : State) : (runStages cfg s).LB =
    Vector.ofFn fun b : Fin 10 => stageLane cfg s.H (saltGen cfg s.H) 4 b := by
  rw [runStages_eq_steps, bigBox_LB_eq]
  simp only [bigBox_H]

/-- Settles O43: no stage writes H, so each is a function of the H before the first. -/
theorem stagesShareOneHashState : Obligations.StagesShareOneHashState := by
  refine fun cfg s => ⟨runStages_H cfg s, runStages_BB cfg s, fun b => ?_⟩
  rw [runStages_LB]
  exact Vector.getElem_ofFn b.isLt

end Sys2Proof.Machine
end

section
/-! PROOFS. LITTLE-box (spec 44_little_box.md R177 to R179): two runs of MIX_LANES leave the zero vector,
HXOR is 0, and so the kernel zeroes the six load slots of every lane. -/

namespace Sys2Proof.Machine

/-! ### Paired vectors -/

/-- A vector is paired when its elements 0 and 1 are equal and its elements 2 and 3 are equal (R177). -/
structure Vec4.Paired (V : Vec4) : Prop where
  low : V.v0 = V.v1
  high : V.v2 = V.v3

/-- The same operation on every element keeps a vector paired. -/
theorem Vec4.Paired.map {V : Vec4} (h : V.Paired) (f : Word → Word) : (V.map f).Paired :=
  ⟨congrArg f h.low, congrArg f h.high⟩

/-- The two permutes of MIX_LANES exclusive-or the same two elements into each pair (R177 (i)). -/
theorem mixLanes_paired (V : Vec4) : (mixLanes V).Paired := by
  rw [mixLanes_eq]
  exact ⟨congrArg mixTail (BitVec.xor_comm V.v2 V.v3), congrArg mixTail (BitVec.xor_comm V.v0 V.v1)⟩

/-- ARX ends with MIX_LANES and one multiplier for all four elements (R177 (ii)). -/
theorem arx_paired (V saltV rcV : Vec4) (r1 r2 : Count) : (arx V saltV rcV r1 r2).Paired :=
  Vec4.Paired.map (mixLanes_paired _) (· * arxMultiplier)

/-- MIX_LANES cancels the two equal elements of each pair (R177 (iii)). -/
theorem mixLanes_of_paired {V : Vec4} (h : V.Paired) : mixLanes V = Vec4.zero := by
  rw [mixLanes_eq, h.low, h.high]
  simp only [BitVec.xor_self, mixTail_zero]
  rfl

/-- Six zero vectors. -/
def LoadVectors.zero : LoadVectors :=
  ⟨Vec4.zero, Vec4.zero, Vec4.zero, Vec4.zero, Vec4.zero, Vec4.zero⟩

/-- All six vectors are zero when they reach the store-back (R177 (iv)). -/
theorem remix_sweep (cfg : Cfg) (s : Word) (r0 : Nat) (V : LoadVectors) :
    remix (sweep cfg s r0 V) = LoadVectors.zero := by
  simp only [remix, sweep, mixLanes_of_paired (arx_paired _ _ _ _ _), LoadVectors.zero]

/-! ### HXOR -/

/-- The second line of HXOR makes all four elements of a paired vector equal (R178). -/
theorem Vec4.Paired.zip_xor_permute {V : Vec4} (h : V.Paired) :
    V.zip (· ^^^ ·) (permute V 0x4E) = broadcast (V.v0 ^^^ V.v2) := by
  obtain ⟨a, b, c, d⟩ := V
  obtain rfl : a = b := h.low
  obtain rfl : c = d := h.high
  change (⟨a ^^^ c, a ^^^ c, c ^^^ a, c ^^^ a⟩ : Vec4) = ⟨a ^^^ c, a ^^^ c, a ^^^ c, a ^^^ c⟩
  rw [BitVec.xor_comm c a]

/-- A permutation of a vector with all elements equal is the vector itself. -/
theorem permute_broadcast (w : Word) (pat : Byte) : permute (broadcast w) pat = broadcast w := by
  have hget (d : Fin 4) : (broadcast w).get d = w := by fin_cases d <;> rfl
  exact Vec4.ext_get fun d => by rw [permute_get, hget, hget]

/-- HXOR is 0 for every vector (R178): its third line exclusive-ors equal elements. -/
theorem hxor_eq_zero (V : Vec4) : hxor V = 0 := by
  have hcancel (w : Word) : (broadcast w).zip (· ^^^ ·) (broadcast w) = Vec4.zero :=
    Vec4.ext_get fun d => by
      rw [Vec4.get_zip, BitVec.xor_self]
      fin_cases d <;> rfl
  rw [hxor, (mixLanes_paired V).zip_xor_permute, permute_broadcast, hcancel]
  exact hxorScalar_zero

/-! ### Store-back and cross-lane mix -/

/-- The last write of a store-back row (R173). -/
theorem storeRow_getElem_nine (L : Lane) (s0 s1 s4 s5 s8 s9 : Word) :
    (storeRow L s0 s1 s4 s5 s8 s9)[9] = s9 := Vector.getElem_set_self _

/-- A store-back row of zeros zeroes the six load slots and keeps the other four (R173, R176). -/
theorem storeRow_zero (L : Lane) : storeRow L 0 0 0 0 0 0 = zeroLoadSlots L := by
  refine Vector.ext fun k hk => ?_
  simp only [storeRow, Vector.getElem_set]
  interval_cases k <;> rfl

/-- The six zeroed slots (R179). -/
theorem zeroLoadSlots_getElem {k : Fin 10} (hk : k ∈ ([0, 1, 4, 5, 8, 9] : List (Fin 10)))
    (L : Lane) : (zeroLoadSlots L)[k] = 0 := by
  fin_cases hk <;> rfl

/-- The slot 9 value of every row is a value of HXOR (R173, R178). -/
theorem slot9_eq_zero (V : LoadVectors) (pat : Byte) : slot9 V pat = 0 := hxor_eq_zero _

/-- Slot 9 of every lane is 0 after the store-back (R178). -/
theorem storeBack_slot_nine (L : Group) (V : LoadVectors) :
    (storeBack L V).slot 9 = Vec4.zero := by
  simp only [storeBack, slot9_eq_zero, Group.slot]
  exact Vec4.ext_get fun d => by fin_cases d <;> exact storeRow_getElem_nine ..

/-- The store-back of zero vectors (R177, R178). -/
theorem storeBack_zero (L : Group) : storeBack L LoadVectors.zero =
    ⟨zeroLoadSlots L.l0, zeroLoadSlots L.l1, zeroLoadSlots L.l2, zeroLoadSlots L.l3⟩ := by
  simp only [storeBack, slot9_eq_zero, ← storeRow_zero]
  rfl

/-- The word that the cross-lane mix spreads is 0 when slot 9 of every lane is, so nothing changes
(R178). -/
theorem crossLaneMix_of_slot_nine_zero {L : Group} (h : L.slot 9 = Vec4.zero) :
    crossLaneMix L = L := by
  obtain ⟨h0, h1, h2, h3⟩ : L.l0[9] = 0#64 ∧ L.l1[9] = 0#64 ∧ L.l2[9] = 0#64 ∧ L.l3[9] = 0#64 :=
    Vec4.mk.inj h
  have hkeep {M : Lane} (hM : M[9] = 0#64) : M.set 9 0#64 = M := hM ▸ Vector.set_getElem_self _
  simp [crossLaneMix, h0, h1, h2, h3, hkeep]

/-- Settles O40: slot 9 is a value of HXOR, and the cross-lane mix of zeros changes nothing. -/
theorem hxorVanishes : Obligations.HxorVanishes := by
  refine ⟨hxor_eq_zero, fun L V => ?_⟩
  intro K
  have hnine : K.slot 9 = Vec4.zero := storeBack_slot_nine L V
  obtain ⟨h0, h1, h2, h3⟩ := Vec4.mk.inj hnine
  rw [crossLaneMix_of_slot_nine_zero hnine]
  exact ⟨h0, h1, h2, h3, h0, h1, h2, h3⟩

/-! ### Kernel and executor -/

/-- The kernel zeroes the six load slots of the four lanes and does nothing else, whatever the salt
word, the round base, the table and the batch (R176 to R178). -/
theorem kernel4_eq (cfg : Cfg) (L : Group) (s : Word) (r0 : Nat) (full : Bool) :
    kernel4 cfg L s r0 full =
      ⟨zeroLoadSlots L.l0, zeroLoadSlots L.l1, zeroLoadSlots L.l2, zeroLoadSlots L.l3⟩ := by
  rw [kernel4, crossLaneMix_of_slot_nine_zero (storeBack_slot_nine L _), ite_self, remix_sweep,
    storeBack_zero]

/-- Settles O39: five of the six slots that the kernel zeroes. -/
theorem kernelZeroesTheLoadSlots : Obligations.KernelZeroesTheLoadSlots := by
  intro cfg L s r0 full k hk
  have hzero (M : Lane) : (zeroLoadSlots M)[k] = 0 :=
    zeroLoadSlots_getElem (List.mem_append_left [9] hk) M
  rw [kernel4_eq]
  exact ⟨hzero L.l0, hzero L.l1, hzero L.l2, hzero L.l3⟩

/-- Settles O41: a lane of a batch of each size is a lane of one run of the kernel. -/
theorem littleBoxLaw : Obligations.LittleBoxLaw := by
  intro cfg lanes s r0 hlen
  match lanes with
  | [] => rfl
  | [_] | [_, _] | [_, _, _] | [_, _, _, _] => simp only [littleBox, kernel4_eq, List.map]
  | _ :: _ :: _ :: _ :: _ :: _ => simp only [List.length_cons] at hlen; omega

end Sys2Proof.Machine
end

section
/-! PROOFS. BIG-box stage (spec 45_big_box.md R190 to R198): its frame, the lanes that the LITTLE-box call
leaves, and the sub-state as a closed form of H, the salt and the tables, without H[0]. -/

namespace Sys2Proof.Machine

/-! ### What a stage writes -/

/-- Two states that agree when LB and BB are made the same agree but for LB and BB. -/
theorem State.eq_with_LB_BB {s t : State}
    (h : ∀ LB BB, { t with LB := LB, BB := BB } = { s with LB := LB, BB := BB }) :
    t = { s with LB := t.LB, BB := t.BB } :=
  h t.LB t.BB

/-- A stage writes no piece of state but LB and BB (R190, R197). -/
theorem bigBox_frame (cfg : Cfg) (s : State) (i : Fin 5) : bigBox cfg s i =
    { s with LB := (bigBox cfg s i).LB, BB := (bigBox cfg s i).BB } := by
  refine State.eq_with_LB_BB fun LB BB => ?_
  simp only [bigBox_H, bigBox_BUF, bigBox_BUFLEN, bigBox_TOTBITS, bigBox_ACTIVE, bigBox_ERR_ILL,
    bigBox_ERR_SEQ, bigBox_DIGEST, bigBox_DVALID, bigBox_pending, bigBox_reads]

/-- Settles O42: the frame, and what the two pieces of state written hold. -/
theorem bigBoxWritesLanesAndItsSubState : Obligations.BigBoxWritesLanesAndItsSubState := by
  refine fun cfg s i => ⟨bigBox_frame cfg s i, fun b => ?_, fun j => ?_⟩
  · rw [bigBox_LB_eq]
    exact Vector.getElem_ofFn b.isLt
  · rw [bigBox_BB]
    by_cases hj : j = i
    · rw [if_pos hj, if_pos hj, hj]
    · rw [if_neg hj, if_neg hj]

/-! ### The lanes -/

/-- A batch of one lane: the six load slots zero, the other four kept (R179, R180). -/
theorem littleBox1_eq (cfg : Cfg) (L : Lane) (s : Word) (r0 : Nat) :
    littleBox1 cfg L s r0 = zeroLoadSlots L := by
  rw [littleBox1, kernel4_eq]

/-- The stored lane keeps slots 2, 3, 6 and 7 of the lane built (R198). -/
theorem stageLane_eq (cfg : Cfg) (H S : Words5) (i : Fin 5) (b : Fin 10) : stageLane cfg H S i b =
    (#v[0, 0, H[2] ^^^ S[2], H[3] ^^^ S[3], 0, 0, H[1] ^^^ rc cfg (10 * b.val + 1),
      H[2] ^^^ rc cfg (10 * b.val + 2), 0, 0] : Lane) := by
  rw [stageLane, littleBox1_eq, Nat.mul_comm 10]
  rfl

/-! ### The folds -/

/-- A fold over the ten lanes by their numbers (R195). -/
theorem foldLanes_ofFn (lane : Fin 10 → Lane) (k : Fin 5) (even odd : Nat → Word)
    (heven : ∀ b, (lane b)[2 * k.val] = even b.val) (hodd : ∀ b, (lane b)[2 * k.val + 1] = odd b.val) :
    foldLanes (Vector.ofFn lane) k =
      (List.range 10).foldl (fun acc b => (acc ^^^ even b) + odd b) 0 := by
  rw [← List.map_coe_finRange_eq_range, List.foldl_map, foldLanes]
  simp only [Fin.getElem_fin, Vector.getElem_ofFn, heven, hodd]

/-- A fold over zero words is 0. -/
theorem foldl_xor_add_zero (l : List Nat) :
    l.foldl (fun acc _ => (acc ^^^ (0 : Word)) + 0) 0 = 0 := by
  simp

/-- `f1` of R198: the fold of the two salted words, the same in every lane. -/
def saltedFold (H S : Words5) : Word :=
  (List.range 10).foldl (fun acc _ => (acc ^^^ (H[2] ^^^ S[2])) + (H[3] ^^^ S[3])) 0

/-- `f3` of R198: the fold of the two words that the round constants enter. -/
def constantFold (cfg : Cfg) (H : Words5) : Word :=
  (List.range 10).foldl
    (fun acc b => (acc ^^^ (H[1] ^^^ rc cfg (10 * b + 1))) + (H[2] ^^^ rc cfg (10 * b + 2))) 0

/-- The five folds over the lanes of a stage (R198). -/
def stageFolds (cfg : Cfg) (H S : Words5) : Words5 :=
  #v[0, saltedFold H S, 0, constantFold cfg H, 0]

/-- The folds of a stage do not mention i (R198). -/
theorem foldLanes_stageLane (cfg : Cfg) (H S : Words5) (i k : Fin 5) :
    foldLanes (Vector.ofFn fun b : Fin 10 => stageLane cfg H S i b) k = (stageFolds cfg H S)[k] := by
  simp only [stageLane_eq]
  match k with
  | 0 | 2 | 4 =>
    exact (foldLanes_ofFn _ _ (fun _ => 0) (fun _ => 0) (fun _ => rfl) fun _ => rfl).trans
      (foldl_xor_add_zero _)
  | 1 =>
    exact foldLanes_ofFn _ 1 (fun _ => H[2] ^^^ S[2]) (fun _ => H[3] ^^^ S[3])
      (fun _ => rfl) fun _ => rfl
  | 3 =>
    exact foldLanes_ofFn _ 3 (fun b => H[1] ^^^ rc cfg (10 * b + 1))
      (fun b => H[2] ^^^ rc cfg (10 * b + 2)) (fun _ => rfl) fun _ => rfl

/-! ### The closed form -/

/-- The sub-state of a stage: gamma_mix of the five folds (R196, R198). -/
theorem stageSubState_eq (cfg : Cfg) (H : Words5) (i : Fin 5) : stageSubState cfg H i =
    Vector.ofFn fun k : Fin 5 => gammaMix (stageFolds cfg H (saltGen cfg H))[k] (saltGen cfg H)[k]
      (rc cfg (i.val * 100 + k.val)) (BitVec.ofNat 64 (i.val * 2000 + 1000)) := by
  simp only [stageSubState, finishSubState, foldLanes_stageLane, roundBase]

/-- The finish word by word (R196). -/
theorem finish_eq_literal (cfg : Cfg) (S : Words5) (a b c d e : Word) (n : Nat) (k : Word) :
    (Vector.ofFn fun j : Fin 5 =>
      gammaMix (#v[a, b, c, d, e] : Words5)[j] S[j] (rc cfg (n + j.val)) k) =
    #v[gammaMix a S[0] (rc cfg n) k, gammaMix b S[1] (rc cfg (n + 1)) k,
      gammaMix c S[2] (rc cfg (n + 2)) k, gammaMix d S[3] (rc cfg (n + 3)) k,
      gammaMix e S[4] (rc cfg (n + 4)) k] := rfl

/-- The salt does not see H[0] (R157 (b)). -/
theorem saltGen_set_zero (cfg : Cfg) (H : Words5) (v : Word) :
    saltGen cfg (H.set 0 v) = saltGen cfg H := by
  refine saltDependsOnlyOn cfg cfg _ _ (fun k hk => ?_) (fun _ _ _ => rfl) rfl
  exact Vector.getElem_set_ne _ k.isLt fun h0 => hk (Fin.ext h0.symm)

/-- The folds read words 1, 2 and 3 of H (R198). -/
theorem stageFolds_set_zero (cfg : Cfg) (H S : Words5) (v : Word) :
    stageFolds cfg (H.set 0 v) S = stageFolds cfg H S := by
  have hkeep (k : Nat) (hk : k < 5) (h0 : 0 ≠ k) : (H.set 0 v)[k] = H[k] :=
    Vector.getElem_set_ne _ hk h0
  simp only [stageFolds, saltedFold, constantFold, hkeep 1 _ (by decide), hkeep 2 _ (by decide),
    hkeep 3 _ (by decide)]

/-- Settles O44: the lanes, then the finish of their folds, none of which sees H[0]. -/
theorem stageClosedForm : Obligations.StageClosedForm := by
  refine fun cfg H i => ⟨stageLane_eq cfg H (saltGen cfg H) i, ?_, fun v => ?_⟩
  · rw [stageSubState_eq]
    exact finish_eq_literal cfg (saltGen cfg H) _ _ _ _ _ (i.val * 100) _
  · rw [stageSubState_eq, stageSubState_eq, saltGen_set_zero, stageFolds_set_zero]

end Sys2Proof.Machine
end

section
/-! PROOFS. Padding and the output mixes C and D (spec 46_finalizer.md R200, R206, R207): what padding
writes, and each mix as its rounds, one step after another on the words as they stand. -/

namespace Sys2Proof.Machine

/-! ### Padding -/

/-- Padding is a sequence of byte stores, and each leaves every piece of state but BUF (R200). -/
theorem padBuffer_frame (s : State) : padBuffer s = { s with BUF := (padBuffer s).BUF } :=
  foldl_proj (fun t n => State.storeByte t n 0)
    (fun t => { t with BUF := (padBuffer s).BUF }) (fun _ _ => rfl)
    ((List.finRange 128).filter (s.BUFLEN < ·)) (s.storeByte s.BUFLEN 0x80)

/-- Settles O45: the bytes of the padded block, and the frame. -/
theorem paddingFillsTheBlock : Obligations.PaddingFillsTheBlock := fun s =>
  ⟨congrFun (padBuffer_bufBytes s), padBuffer_frame s⟩

/-! ### Output-mix C -/

/-- The three rounds in ascending r (R206). -/
theorem outMixC_eq_rounds (BB : Vector Words5 5) (H : Words5) : outMixC BB H =
    outMixCRound BB (outMixCRound BB (outMixCRound BB H 0) 1) 2 := rfl

/-- A round acts on each word by itself: sub-state r, rotation by 17 + 5r (R206). -/
theorem outMixCRound_getElem (BB : Vector Words5 5) (H : Words5) (r : Fin 3) (i : Fin 5) :
    (outMixCRound BB H r)[i] = rotl (extraMix H[i] ^^^ BB[r.val][i]) (count (17 + r.val * 5)) :=
  Vector.getElem_ofFn i.isLt

/-- Settles O46: word i after the three rounds, the last one outermost. -/
theorem outputMixCRounds : Obligations.OutputMixCRounds := by
  intro BB H i
  rw [outMixC_eq_rounds, outMixCRound_getElem, outMixCRound_getElem, outMixCRound_getElem]
  rfl

/-! ### Output-mix D -/

/-- A fold over the five indices, written out. -/
theorem foldl_finRange_five {α : Type} (f : α → Fin 5 → α) (x : α) :
    (List.finRange 5).foldl f x = f (f (f (f (f x 0) 1) 2) 3) 4 := rfl

/-- The word m: its fold starts at 0, so its first line is a rotation of H[0] (R207). -/
theorem outMixDWord_eq (H : Words5) : outMixDWord H =
    let m0 := rotl H[0] 17 ^^^ H[2]
    let m1 := rotl (m0 ^^^ H[1]) 17 ^^^ H[3]
    let m2 := rotl (m1 ^^^ H[2]) 17 ^^^ H[4]
    let m3 := rotl (m2 ^^^ H[3]) 17 ^^^ H[0]
    rotl (m3 ^^^ H[4]) 17 ^^^ H[1] := by
  have hstart : (0 : Word) ^^^ H[(0 : Fin 5)] = H[(0 : Fin 5)] := BitVec.zero_xor
  rw [outMixDWord, foldl_finRange_five, hstart]
  rfl

/-! One equation per update: the word below is read in the words that the update finds. -/

section Updates
variable (m a b c d e : Word)

theorem outMixDStep_zero : outMixDStep m #v[a, b, c, d, e] 0 =
    #v[rotr ((a ^^^ m) * (0x9E3779B97F4A7C15 : Word) ^^^ (b >>> 3)) 23, b, c, d, e] := rfl

theorem outMixDStep_one : outMixDStep m #v[a, b, c, d, e] 1 =
    #v[a, rotr ((b ^^^ rotl m 13) * (0x9E3779B97F4A7C15 : Word) ^^^ (c >>> 10)) 28, c, d, e] := rfl

theorem outMixDStep_two : outMixDStep m #v[a, b, c, d, e] 2 =
    #v[a, b, rotr ((c ^^^ rotl m 26) * (0x9E3779B97F4A7C15 : Word) ^^^ (d >>> 17)) 33, d, e] := rfl

theorem outMixDStep_three : outMixDStep m #v[a, b, c, d, e] 3 =
    #v[a, b, c, rotr ((d ^^^ rotl m 39) * (0x9E3779B97F4A7C15 : Word) ^^^ (e >>> 24)) 38, e] := rfl

theorem outMixDStep_four : outMixDStep m #v[a, b, c, d, e] 4 =
    #v[a, b, c, d, rotr ((e ^^^ rotl m 52) * (0x9E3779B97F4A7C15 : Word) ^^^ (a >>> 31)) 43] := rfl

end Updates

/-- Settles O47: the word m of the old words, then the updates one after another. -/
theorem outputMixDRoundIsInPlace : Obligations.OutputMixDRoundIsInPlace := by
  intro H g m0 m1 m2 m3 m h0 h1 h2 h3 h4
  have hm : outMixDWord H = m := outMixDWord_eq H
  calc outMixDRound H
    _ = (List.finRange 5).foldl (outMixDStep m) H := by rw [outMixDRound, hm]
    _ = (List.finRange 5).foldl (outMixDStep m) #v[H[0], H[1], H[2], H[3], H[4]] :=
      congrArg ((List.finRange 5).foldl (outMixDStep m)) (words5_eq_literal H)
    _ = #v[h0, h1, h2, h3, h4] := by
      rw [foldl_finRange_five, outMixDStep_zero, outMixDStep_one, outMixDStep_two,
        outMixDStep_three, outMixDStep_four]

end Sys2Proof.Machine
end

section
/-! PROOFS. Colliding messages (spec 46_finalizer.md R212): the compressor does not see bytes 120 to 127
of a block, and one zero byte more moves only bytes there. -/

namespace Sys2Proof.Machine

/-- A block that differs only at byte 120 or above is compressed to the same words (R143, R212). -/
theorem compress_parseBlock_congr {x y : Fin 128 → Byte} (h : ∀ a : Fin 128, a.val < 120 → x a = y a)
    (H : Words5) : compress H (parseBlock x) = compress H (parseBlock y) := by
  refine compress_congr (fun j hj => ?_) H
  have hword : (fun k : Fin 8 => x ⟨8 * j + k.val, by omega⟩) =
      fun k : Fin 8 => y ⟨8 * j + k.val, by omega⟩ :=
    funext fun k => h _ (show 8 * j + k.val < 120 by omega)
  calc (parseBlock x)[j]
    _ = bytesToU64 fun k => x ⟨8 * j + k.val, by omega⟩ := parseBlock_getElem x ⟨j, by omega⟩
    _ = bytesToU64 fun k => y ⟨8 * j + k.val, by omega⟩ := congrArg bytesToU64 hword
    _ = (parseBlock y)[j] := (parseBlock_getElem y ⟨j, by omega⟩).symm

/-- A message keeps its bytes when more follow. -/
theorem msgByte_append {m : List Byte} {n : Nat} (h : n < m.length) (l : List Byte) :
    msgByte (m ++ l) n = msgByte m n := List.getD_append m l 0 n h

/-- Bytes that complete no further block leave H after the full blocks as it is (R230). -/
theorem absorbBlocks_append (cfg : Cfg) {m l : List Byte}
    (h : (m ++ l).length / 128 = m.length / 128) : absorbBlocks cfg (m ++ l) = absorbBlocks cfg m := by
  rw [absorbBlocks, absorbBlocks, h]
  refine List.foldl_ext _ _ _ fun H t ht => ?_
  have hblock (a : Fin 128) : msgByte (m ++ l) (128 * t + a.val) = msgByte m (128 * t + a.val) :=
    msgByte_append (by have := List.mem_range.mp ht; omega) l
  simp only [hblock]

/-- Below the message's end the padded block holds the message (R200). -/
theorem paddedByte_of_lt {bytes : Nat → Byte} {r : Nat} {a : Fin 128} (h : a.val < r) :
    paddedByte bytes r a = bytes a.val := if_pos h

/-- Settles O55: the byte more completes no block, and the two padded blocks agree below byte 120. -/
theorem trailingZeroByteCollides : Obligations.TrailingZeroByteCollides := by
  intro cfg m hlo hhi
  have hlen : (m ++ [0x00]).length = m.length + 1 := List.length_append
  have hq : (m ++ [0x00]).length / 128 = m.length / 128 := by omega
  have hr : (m ++ [0x00]).length % 128 = m.length % 128 + 1 := by omega
  rw [digest, digest, absorbBlocks_append cfg hq, hq, hr]
  refine congrArg (fin cfg) (compress_parseBlock_congr (fun a ha => ?_) (absorbBlocks cfg m))
  rw [paddedByte_of_lt (by omega), paddedByte_of_lt (by omega), msgByte_append (by omega)]

end Sys2Proof.Machine
end

section
/-! PROOFS. The five commands (spec 47_commands.md R220 to R230): the state that each leaves, in both
phases, and the run of `INIT`, one `UPDATE` a byte and `FINAL`, which leaves the digest of R230. -/

namespace Sys2Proof.Machine

/-! ### What each command leaves -/

/-- `INIT` overwrites all but the error flags and the host's side, in both phases (R220). -/
theorem exec_init_eq (s : State) : exec .init s = .next s.fresh := rfl

/-- `RESET` writes the state that `INIT` writes (R222). -/
theorem exec_reset_eq (s : State) : exec .reset s = .next s.fresh := rfl

/-- `WIPE` zeroes all but the error flags and the host's side, in both phases (R225). -/
theorem exec_wipe_eq (s : State) : exec .wipe s = .next s.wiped := rfl

/-- `UPDATE` in phase ACTIVE absorbs its byte (R223). -/
theorem exec_update_of_active {s : State} (ha : s.ACTIVE = true) (b : Byte) :
    exec (.update b) s = .next (absorb b s) := by
  rw [exec_update_eq, if_pos ha]

/-- `FINAL` in phase ACTIVE finalizes the hash (R224). -/
theorem exec_final_of_active {s : State} (ha : s.ACTIVE = true) :
    exec .final s = .next (finalize Config.cfg s) := by
  rw [exec_final_eq, if_pos ha]

/-- `UPDATE` in phase IDLE is a sequence error (R223, R242). -/
theorem exec_update_of_idle {s : State} (hi : s.ACTIVE = false) (b : Byte) :
    exec (.update b) s = .next { s with ERR_SEQ := true } := by
  rw [exec_update_eq, if_neg (ne_true_of_eq_false hi)]
  rfl

/-- `FINAL` in phase IDLE is a sequence error (R224, R242). -/
theorem exec_final_of_idle {s : State} (hi : s.ACTIVE = false) :
    exec .final s = .next { s with ERR_SEQ := true } := by
  rw [exec_final_eq, if_neg (ne_true_of_eq_false hi)]
  rfl

/-- Two states with the same error flags and host's side are wiped alike. -/
theorem wiped_congr {s u : State} (hill : s.ERR_ILL = u.ERR_ILL) (hseq : s.ERR_SEQ = u.ERR_SEQ)
    (hpending : s.pending = u.pending) (hreads : s.reads = u.reads) : s.wiped = u.wiped := by
  rw [State.wiped, State.wiped, hill, hseq, hpending, hreads]

/-- A fresh hash takes the error flags and the host's side of the state before, and no more. -/
theorem fresh_eq_wiped (s : State) :
    s.fresh = { s.wiped with H := hinit Config.cfg, ACTIVE := true } := rfl

/-! ### A byte absorbed -/

/-- A byte that fills no block leaves H (R223). -/
theorem absorb_H_of_lt {s : State} (h : s.BUFLEN.val < 127) (b : Byte) : (absorb b s).H = s.H := by
  obtain ⟨_, e⟩ | ⟨hfull, _⟩ := absorb_cases s b
  · simp [e]
  · omega

/-- The 128th byte dispatches the block (R223). -/
theorem absorb_H_of_full {s : State} (h : s.BUFLEN.val = 127) (b : Byte) :
    (absorb b s).H = compress s.H (parseBlock (absorb b s).BUF.read) := by
  obtain ⟨hlt, _⟩ | ⟨_, e⟩ := absorb_cases s b
  · omega
  · rw [absorb_BUF, e, State.setBufLen_H, compressBuffer_H, State.countByte_H, State.storeByte_H]
    rfl

/-- Absorbing leaves the error flags and the host's side as they are. -/
theorem absorb_wiped (b : Byte) (s : State) : (absorb b s).wiped = s.wiped :=
  wiped_congr (absorb_ERR_ILL s b) (absorb_ERR_SEQ s b) (absorb_pending s b) (absorb_reads s b)

/-- So does a list of bytes. -/
theorem absorbAll_wiped (m : List Byte) (s : State) : (absorbAll m s).wiped = s.wiped :=
  foldl_proj (fun t b => absorb b t) State.wiped (fun t b => absorb_wiped b t) m s

/-- Absorbing does not look at the host's moves still to come. -/
theorem absorbAll_setPending (m : List Byte) (s : State) (ms : List HostAction) :
    absorbAll m (s.setPending ms) = (absorbAll m s).setPending ms := by
  induction m generalizing s with
  | nil => rfl
  | cons b m ih => rw [absorbAll_cons, absorb_setPending, ih, absorbAll_cons]

/-! ### The single commands -/

/-- The operand of `UPDATE` stands in bits 15:8 of its word (R73). -/
theorem encode_update (b : Byte) :
    encode (.update b) = 0x00000002 ||| (b.setWidth 32 <<< 8) := by
  have hb := b.isLt
  apply BitVec.eq_of_toNat_eq
  calc (encode (.update b)).toNat
    _ = ((0 : BitVec 16) ++ b ++ (2 : BitVec 8)).toNat := rfl
    _ = b.toNat <<< 8 + 2 := by
      rw [toNat_append_eq_add, toNat_append_eq_add, Nat.shiftLeft_eq]
      simp
    _ = 2 ||| b.toNat <<< 8 := by
      rw [Nat.shiftLeft_add_eq_or_of_lt (by decide), Nat.or_comm]
    _ = (0x00000002 ||| (b.setWidth 32 <<< 8)).toNat := by
      rw [BitVec.toNat_or, BitVec.toNat_shiftLeft, BitVec.toNat_setWidth_of_le (by decide),
        Nat.mod_eq_of_lt (by rw [Nat.shiftLeft_eq]; omega)]
      rfl

/-- Settles O12: the word's row, and the state that `INIT` writes. -/
theorem initStartsAFreshHash : Obligations.InitStartsAFreshHash :=
  ⟨rfl, fun w => (decode_eq_ok_iff_row w .init).2, fun s => ⟨exec_init_eq s, Memory.read_nil⟩⟩

/-- Settles O14: the word's row, and that `INIT` and `RESET` write one state. -/
theorem resetHasTheEffectOfInit : Obligations.ResetHasTheEffectOfInit :=
  ⟨rfl, fun w => (decode_eq_ok_iff_row w .reset).2, fun s =>
    ⟨exec_reset_eq s, (exec_reset_eq s).trans (exec_init_eq s).symm⟩⟩

/-- Settles O15: the word's row, and the state that `WIPE` writes. -/
theorem wipeZeroesAllButTheFlags : Obligations.WipeZeroesAllButTheFlags :=
  ⟨rfl, fun w => (decode_eq_ok_iff_row w .wipe).2, exec_wipe_eq⟩

/-- Settles O54: a fresh and a wiped state keep the error flags and the host's side, and no more. -/
theorem zeroisationForgetsTheMessage : Obligations.ZeroisationForgetsTheMessage := by
  intro s u hill hseq hpending hreads
  have hwiped : s.wiped = u.wiped := wiped_congr hill hseq hpending hreads
  have hfresh : s.fresh = u.fresh := by rw [fresh_eq_wiped, fresh_eq_wiped, hwiped]
  rw [exec_init_eq, exec_init_eq, exec_reset_eq, exec_reset_eq, exec_wipe_eq, exec_wipe_eq, hfresh,
    hwiped]
  exact ⟨rfl, rfl, rfl⟩

/-- Settles O16: in phase ACTIVE `UPDATE` absorbs the byte, and BUFLEN decides whether it dispatches. -/
theorem updateAbsorbsOneByte : Obligations.UpdateAbsorbsOneByte := by
  refine ⟨encode_update, fun w hw => (decode_eq_update_iff_row w _).2 ⟨hw, rfl⟩,
    fun b s hi => exec_update_of_idle hi b, fun b s ha => ?_⟩
  have hread (a : Fin 128) :
      (absorb b s).BUF.read a = if a = s.BUFLEN then b else s.BUF.read a := by
    rw [absorb_BUF, Memory.read_write]
  have hlen := absorb_BUFLEN s b
  refine ⟨absorb b s, exec_update_of_active ha b, hread, absorb_TOTBITS s b, fun hlt => ?_,
    fun hfull => ?_, absorb_LB s b, absorb_BB s b, absorb_DIGEST s b, absorb_DVALID s b,
    absorb_ACTIVE s b, absorb_ERR_ILL s b, absorb_ERR_SEQ s b, absorb_pending s b, absorb_reads s b⟩
  · exact ⟨by omega, absorb_H_of_lt hlt b⟩
  · refine ⟨Fin.ext (by rw [hlen, hfull]; rfl), ?_⟩
    rw [absorb_H_of_full hfull, funext hread]

/-- Settles O17: the padded block is the one that `finalize_eq_fin` compresses. -/
theorem finalWritesTheDigest : Obligations.FinalWritesTheDigest := by
  refine ⟨rfl, fun w => (decode_eq_ok_iff_row w .final).2, fun s => exec_final_of_idle,
    fun s ha => ?_⟩
  rw [exec_final_of_active ha, finalize_eq_fin]
  rfl

/-- Settles O20: each command leaves its one state, by phase where it has a precondition. -/
theorem phaseTransitions : Obligations.PhaseTransitions := by
  intro s t b
  refine ⟨fun h => ?_, fun h => ?_, fun h => ?_, fun h => ?_⟩
  · obtain rfl : s.fresh = t := h.elim Host.Outcome.next.inj Host.Outcome.next.inj
    exact ⟨rfl, rfl, rfl⟩
  · cases ha : s.ACTIVE with
    | true =>
      obtain rfl := Host.Outcome.next.inj ((exec_update_of_active ha b).symm.trans h)
      simp [ha]
    | false =>
      obtain rfl := Host.Outcome.next.inj ((exec_update_of_idle ha b).symm.trans h)
      simp [ha]
  · cases ha : s.ACTIVE with
    | true =>
      obtain rfl := Host.Outcome.next.inj ((exec_final_of_active ha).symm.trans h)
      simp [finalize_eq, State.reset]
    | false =>
      obtain rfl := Host.Outcome.next.inj ((exec_final_of_idle ha).symm.trans h)
      simp [ha]
  · obtain rfl : s.wiped = t := Host.Outcome.next.inj h
    exact ⟨rfl, rfl, rfl⟩

/-! ### The init-mix -/

/-- The five words before the init-mix, three of them exclusive-ors (R221). -/
theorem hashSeed_eq : hashSeed = #v[0x2550D73C3537E224, 0xE4B88A74AB174325, 0xFED9AFDCE184D938,
    0x3C6EF372D8B4F1A6, 0x510E527F4D8C3A92] := by decide

/-! One equation per step: the last word is read in the words that the step finds. -/

section InitMix
variable (cfg : Cfg) (a b c d e : Word)

theorem initMixStep_zero : initMixStep cfg #v[a, b, c, d, e] 0 =
    #v[rotl (a ^^^ cfg.RC[0]) 17 * 0x9E3779B97F4A7C15 ^^^ c, b, c, d, e] := rfl

theorem initMixStep_one : initMixStep cfg #v[a, b, c, d, e] 1 =
    #v[a, rotl (b ^^^ cfg.RC[10]) 24 * 0x9E3779B97F4A7C15 ^^^ d, c, d, e] := rfl

theorem initMixStep_two : initMixStep cfg #v[a, b, c, d, e] 2 =
    #v[a, b, rotl (c ^^^ cfg.RC[20]) 31 * 0x9E3779B97F4A7C15 ^^^ e, d, e] := rfl

theorem initMixStep_three : initMixStep cfg #v[a, b, c, d, e] 3 =
    #v[a, b, c, rotl (d ^^^ cfg.RC[30]) 38 * 0x9E3779B97F4A7C15 ^^^ a, e] := rfl

theorem initMixStep_four : initMixStep cfg #v[a, b, c, d, e] 4 =
    #v[a, b, c, d, rotl (e ^^^ cfg.RC[40]) 45 * 0x9E3779B97F4A7C15 ^^^ b] := rfl

end InitMix

/-- Settles O13: the steps run one after another, each on the words the one before it left. -/
theorem hinitIsTheInPlaceInitMix : Obligations.HinitIsTheInPlaceInitMix := by
  intro cfg g x0 x1 x2 x3 x4
  rw [hinit, hashSeed_eq, foldl_finRange_five, initMixStep_zero, initMixStep_one, initMixStep_two,
    initMixStep_three, initMixStep_four]
  rfl

/-! ### The message absorbed so far -/

/-- The engine has absorbed the bytes of m since `hinit` (R230): H is that after the full blocks,
BUFLEN counts the bytes after them, and the buffer holds those bytes from address 0 on. -/
structure State.Absorbed (cfg : Cfg) (m : List Byte) (s : State) : Prop where
  hash : s.H = absorbBlocks cfg m
  buflen : s.BUFLEN.val = m.length % 128
  live : ∀ a : Fin 128, a.val < m.length % 128 →
    s.BUF.read a = msgByte m (128 * (m.length / 128) + a.val)

/-- A fresh hash has absorbed the empty message (R220). -/
theorem absorbed_fresh (s : State) : s.fresh.Absorbed Config.cfg [] where
  hash := rfl
  buflen := rfl
  live a ha := absurd ha (Nat.not_lt_zero a.val)

/-- The byte after a message is the first of those appended. -/
theorem msgByte_length (m : List Byte) (b : Byte) : msgByte (m ++ [b]) m.length = b := by
  simp [msgByte]

/-- A full block more is compressed into H (R230). -/
theorem absorbBlocks_of_full (cfg : Cfg) (m : List Byte) (b : Byte) (h : m.length % 128 = 127) :
    absorbBlocks cfg (m ++ [b]) = compress (absorbBlocks cfg m)
      (parseBlock fun a => msgByte (m ++ [b]) (128 * (m.length / 128) + a.val)) := by
  have hq : (m ++ [b]).length / 128 = m.length / 128 + 1 := by
    rw [List.length_append, List.length_singleton]
    omega
  have hblock {t : Nat} (ht : t ∈ List.range (m.length / 128)) (a : Fin 128) :
      msgByte (m ++ [b]) (128 * t + a.val) = msgByte m (128 * t + a.val) :=
    msgByte_append (by have := List.mem_range.mp ht; omega) [b]
  have hbefore : (List.range (m.length / 128)).foldl (fun H t => compress H
      (parseBlock fun a => msgByte (m ++ [b]) (128 * t + a.val))) (hinit cfg) = absorbBlocks cfg m :=
    List.foldl_ext _ _ _ fun H t ht => by simp only [hblock ht]
  rw [absorbBlocks, hq, List.range_succ, List.foldl_append, hbefore, List.foldl_cons, List.foldl_nil]

section Absorbed
variable {cfg : Cfg} {m : List Byte} {s : State}

/-- One byte more: the buffer holds it after the bytes it held (R223). -/
theorem State.Absorbed.absorb_read (h : s.Absorbed cfg m) (b : Byte) {a : Fin 128}
    (ha : a.val ≤ m.length % 128) :
    (absorb b s).BUF.read a = msgByte (m ++ [b]) (128 * (m.length / 128) + a.val) := by
  have hdiv := Nat.div_add_mod m.length 128
  rw [absorb_BUF, Memory.read_write]
  by_cases hlast : a = s.BUFLEN
  · rw [if_pos hlast, hlast, h.buflen, hdiv, msgByte_length]
  · have hlt : a.val < m.length % 128 :=
      lt_of_le_of_ne ha fun e => hlast (Fin.ext (e.trans h.buflen.symm))
    rw [if_neg hlast, h.live a hlt, msgByte_append (by omega)]

/-- A byte absorbed is a byte appended to the message (R223): inside a block it is stored, and at the
end of one the block is compressed. -/
theorem State.Absorbed.absorb (h : s.Absorbed cfg m) (b : Byte) :
    (absorb b s).Absorbed cfg (m ++ [b]) := by
  have hlen : (m ++ [b]).length = m.length + 1 := List.length_append
  have hbuflen : (Machine.absorb b s).BUFLEN.val = (m ++ [b]).length % 128 := by
    rw [absorb_BUFLEN, h.buflen]
    omega
  by_cases hfull : m.length % 128 = 127
  · refine ⟨?_, hbuflen, fun a ha => by omega⟩
    have hblock : (Machine.absorb b s).BUF.read =
        fun a => msgByte (m ++ [b]) (128 * (m.length / 128) + a.val) :=
      funext fun a => h.absorb_read b (by omega)
    rw [absorb_H_of_full (h.buflen.trans hfull), hblock, h.hash, absorbBlocks_of_full cfg m b hfull]
  · have hq : (m ++ [b]).length / 128 = m.length / 128 := by omega
    refine ⟨?_, hbuflen, fun a ha => ?_⟩
    · rw [absorb_H_of_lt (by have := h.buflen; omega), h.hash, absorbBlocks_append cfg hq]
    · rw [hq]
      exact h.absorb_read b (by omega)

/-- A list absorbed is a list appended to the message. -/
theorem State.Absorbed.absorbAll (h : s.Absorbed cfg m) (l : List Byte) :
    (absorbAll l s).Absorbed cfg (m ++ l) := by
  induction l generalizing m s with
  | nil => rwa [List.append_nil]
  | cons b l ih =>
    rw [absorbAll_cons, List.append_cons]
    exact ih (h.absorb b)

/-- The block that `FINAL` pads is that of the closed form (R200, R230). -/
theorem State.Absorbed.paddedBytes_eq (h : s.Absorbed cfg m) : s.paddedBytes =
    paddedByte (fun a => msgByte m (128 * (m.length / 128) + a)) (m.length % 128) := by
  funext a
  simp only [paddedBytes, paddedByte, Fin.lt_def, Fin.ext_iff, h.buflen]
  split
  · next ha => exact h.live a ha
  · rfl

/-- `FINAL` writes the digest of the message absorbed (R224, R230). -/
theorem State.Absorbed.finalize_eq (h : s.Absorbed cfg m) :
    finalize cfg s = { s.wiped with DIGEST := digest cfg m, DVALID := true } := by
  rw [finalize_eq_fin, h.paddedBytes_eq, h.hash]
  rfl

end Absorbed

/-! ### The run -/

/-- A run of `j + k` steps is a run of j steps and then one of k. -/
theorem run_add (M : Host.Core) {s t : M.State} {j : Nat} (h : M.run j s = .next t) (k : Nat) :
    M.run (j + k) s = M.run k t := by
  induction j generalizing s with
  | zero => rw [Nat.zero_add, Host.Outcome.next.inj h]
  | succ j ih =>
    rw [Nat.add_right_comm]
    cases hs : M.step s with
    | next u => rw [run_succ_of_step M hs] at h ⊢; exact ih h
    | fault r => rw [Host.Core.run, hs] at h; cases h
    | refused r => rw [Host.Core.run, hs] at h; cases h

/-- The run of `INIT`, one `UPDATE` a byte and `FINAL`, from any state: a fresh start, the bytes
absorbed in order, the hash finalized (R230). -/
theorem run_hashCommands (s : State) (m : List Byte) (rest : List HostAction) :
    Sys2Proof.core.run (m.length + 2) (s.setPending (commandMoves (hashCommands m) ++ rest)) =
      .next (finalize Config.cfg (absorbAll m (s.setPending rest).fresh)) := by
  have hmoves : commandMoves (hashCommands m) ++ rest = commandMove (encode .init) ::
      (commandMoves (m.map .update) ++ commandMove (encode .final) :: rest) := by
    simp [commandMoves, hashCommands, updateBytes]
  have hinit : Sys2Proof.core.step (s.setPending (commandMoves (hashCommands m) ++ rest)) =
      .next (s.fresh.setPending
        (commandMoves (m.map .update) ++ commandMove (encode .final) :: rest)) := by
    rw [hmoves]
    exact (step_command .init s _).trans (exec_init_eq _)
  have hupdates := run_updates m s.fresh (commandMove (encode .final) :: rest) rfl
  rw [absorbAll_setPending] at hupdates
  have hfinal : Sys2Proof.core.step
      ((absorbAll m s.fresh).setPending (commandMove (encode .final) :: rest)) =
      .next (finalize Config.cfg (absorbAll m (s.setPending rest).fresh)) := by
    refine (step_command .final (absorbAll m s.fresh) rest).trans ?_
    rw [← absorbAll_setPending]
    exact exec_final_of_active (absorbAll_ACTIVE m _)
  calc Sys2Proof.core.run (m.length + 2) (s.setPending (commandMoves (hashCommands m) ++ rest))
    _ = Sys2Proof.core.run (m.length + 1) _ := run_succ_of_step Sys2Proof.core hinit _
    _ = Sys2Proof.core.run 1 _ := run_add Sys2Proof.core hupdates 1
    _ = .next (finalize Config.cfg (absorbAll m (s.setPending rest).fresh)) :=
      run_succ_of_step Sys2Proof.core hfinal 0

/-- Settles O52: the run absorbs the message after a fresh start, and `FINAL` writes its digest. -/
theorem hashingGivesTheDigest : Obligations.HashingGivesTheDigest := by
  intro s m rest
  have habsorbed : (absorbAll m (s.setPending rest).fresh).Absorbed Config.cfg m :=
    (absorbed_fresh (s.setPending rest)).absorbAll m
  rw [run_hashCommands, habsorbed.finalize_eq, absorbAll_wiped]
  rfl

end Sys2Proof.Machine
end

section
/-! PROOFS. Errors, idle steps and hardware reset (spec 60_exceptions.md R242 to R244, R256,
70_reset_and_hazards.md R260, R262): who sets an error flag, who clears it, and that no command reads
one. -/

namespace Sys2Proof.Machine

/-! ### Steps that issue no command -/

/-- With no move to come the engine holds its state (R256, log entry 6). -/
theorem step_of_no_moves {s : State} (h : s.pending = []) : step s = .next s := by
  rw [step, State.fetch, h]

/-- Hardware reset is a move in every state, and the host's side passes it by (R260, R262). -/
theorem step_hardwareReset (s : State) (rest : List HostAction) :
    step (s.setPending (.hardwareReset :: rest)) = .next (s.setPending rest).hardwareReset :=
  step_setPending s .hardwareReset rest

/-- Settles O7: the list of moves is empty. -/
theorem idleStepHoldsTheState : Obligations.IdleStepHoldsTheState := fun s =>
  step_of_no_moves (s.setPending_pending [])

/-- Settles O10: hardware reset takes only the host's side from the state before. -/
theorem hardwareResetFromAnyState : Obligations.HardwareResetFromAnyState := step_hardwareReset

/-! ### Sequence errors -/

/-- Neither `FINAL` nor `WIPE` leaves a hash in progress (R229). -/
theorem idle_of_final_or_wipe {s t : State} (h : exec .final s = .next t ∨ exec .wipe s = .next t) :
    t.ACTIVE = false := by
  obtain ⟨-, -, hfinal, hwipe⟩ := phaseTransitions s t 0
  obtain h | h := h
  · exact (hfinal h).1
  · exact (hwipe h).1

/-- Settles O18: `UPDATE` and `FINAL` in phase IDLE, where `FINAL` and `WIPE` leave the engine. -/
theorem misuseOnlySetsErrSeq : Obligations.MisuseOnlySetsErrSeq := by
  have misuse (s : State) (b : Byte) (hi : s.ACTIVE = false) :
      exec (.update b) s = .next { s with ERR_SEQ := true } ∧
      exec .final s = .next { s with ERR_SEQ := true } :=
    ⟨exec_update_of_idle hi b, exec_final_of_idle hi⟩
  exact ⟨misuse, fun _ t b h => misuse t b (idle_of_final_or_wipe h)⟩

/-! ### Legality before phase -/

/-- A legal word written to `CMD` leaves `ERR_ILL` as it was (R241). -/
theorem issueCommand_ERR_ILL_of_legal {w : Word32} {s t : State} (hw : ¬ illegalWord w)
    (h : issueCommand w s = .next t) : t.ERR_ILL = s.ERR_ILL := by
  obtain ⟨i, hi⟩ := (legal_iff_exists_decode w).1 hw
  rw [issueCommand_of_decode hi] at h
  obtain ⟨-, -, hill⟩ := exec_frame h
  exact hill

/-- Settles O21: an illegal word only raises `ERR_ILL`, a legal one is a command. -/
theorem legalityIsCheckedBeforePhase : Obligations.LegalityIsCheckedBeforePhase := by
  refine ⟨by decide, by decide, fun w s => ?_⟩
  obtain ⟨t, ht⟩ := issueCommand_total w s
  refine ⟨t, ht, fun hw => ?_, fun hw => issueCommand_ERR_ILL_of_legal hw ht⟩
  exact (Host.Outcome.next.inj ((issueCommand_of_illegalWord hw s).symm.trans ht)).symm

/-! ### Sticky flags -/

/-- Each error flag that is set in `s` is set in `t` (R244). -/
structure State.FlagsStick (s t : State) : Prop where
  ill : s.ERR_ILL = true → t.ERR_ILL = true
  seq : s.ERR_SEQ = true → t.ERR_SEQ = true

theorem State.FlagsStick.of_eq {s t : State} (hill : t.ERR_ILL = s.ERR_ILL)
    (hseq : t.ERR_SEQ = s.ERR_SEQ) : s.FlagsStick t :=
  ⟨hill.trans, hseq.trans⟩

/-- Raising an error sets its flag and keeps the other. -/
theorem flagsStick_raise (s : State) (e : EngineError) : s.FlagsStick (s.raise e) := by
  cases e with
  | illegal => exact ⟨fun _ => s.raise_illegal_ERR_ILL, s.raise_illegal_ERR_SEQ.trans⟩
  | sequence => exact ⟨s.raise_sequence_ERR_ILL.trans, fun _ => s.raise_sequence_ERR_SEQ⟩

/-- A command keeps both flags, or raises a sequence error. -/
theorem exec_flagsStick {i : Instr} {s t : State} (h : exec i s = .next t) : s.FlagsStick t := by
  obtain ⟨-, rfl⟩ | ⟨b, -, -, rfl⟩ | ⟨-, -, rfl⟩ | ⟨-, rfl⟩ | ⟨-, -, rfl⟩ := exec_cases h
  · exact .of_eq (by simp) (by simp)
  · exact .of_eq (by simp) (by simp)
  · exact .of_eq (by simp [finalize_eq]) (by simp [finalize_eq])
  · exact .of_eq (by simp) (by simp)
  · exact flagsStick_raise s .sequence

theorem issueCommand_flagsStick {w : Word32} {s t : State} (h : issueCommand w s = .next t) :
    s.FlagsStick t := by
  obtain ⟨i, -, hexec⟩ | ⟨e, -, rfl⟩ := issueCommand_cases h
  · exact exec_flagsStick hexec
  · exact flagsStick_raise s .illegal

/-- No move of the host but the hardware reset clears a flag (R244). -/
theorem perform_flagsStick {a : HostAction} {s t : State} (ha : a ≠ .hardwareReset)
    (h : perform a s = .next t) : s.FlagsStick t := by
  obtain ⟨off, n, w, -, -, hissue⟩ | ⟨off, n, r, -, -, rfl⟩ | ⟨hreset, -⟩ |
    ⟨off, n, w, r, -, -, -, rfl⟩ := perform_cases h
  · exact issueCommand_flagsStick hissue
  · exact .of_eq (by simp) (by simp)
  · exact absurd hreset ha
  · exact .of_eq rfl rfl

/-- No step clears a flag unless its move is the hardware reset (R244). -/
theorem step_flagsStick {s t : State} (h : step s = .next t)
    (hmove : ∀ rest, s.pending ≠ .hardwareReset :: rest) : s.FlagsStick t := by
  obtain ⟨-, rfl⟩ | ⟨a, rest, hpending, hperform⟩ := step_cases h
  · exact .of_eq rfl rfl
  · have ha : a ≠ .hardwareReset := by
      rintro rfl
      exact hmove rest hpending
    have hstick : (s.setPending rest).FlagsStick t := perform_flagsStick ha hperform
    exact ⟨hstick.ill, hstick.seq⟩

/-- Settles O22: every other step keeps a set flag, and the reset state has none. -/
theorem errorFlagsAreSticky : Obligations.ErrorFlagsAreSticky := by
  refine ⟨fun s t h hmove => ?_, fun s rest => ⟨_, step_hardwareReset s rest, ?_, ?_⟩⟩
  · have hstick := step_flagsStick h hmove
    exact ⟨hstick.ill, hstick.seq⟩
  · rw [State.hardwareReset_ERR_ILL, State.reset_ERR_ILL]
  · rw [State.hardwareReset_ERR_SEQ, State.reset_ERR_SEQ]

/-! ### No command reads a flag

Each computation of a command commutes with replacing the flags; only `raise` overwrites one of the
values put in. -/

/-- `s` with other values in the error flags. -/
def State.withFlags (s : State) (ill seq : Bool) : State := { s with ERR_ILL := ill, ERR_SEQ := seq }

section WithFlags
variable (s : State) (ill seq : Bool)

@[simp] theorem State.withFlags_ACTIVE : (s.withFlags ill seq).ACTIVE = s.ACTIVE := (rfl)

@[simp] theorem State.withFlags_BUFLEN : (s.withFlags ill seq).BUFLEN = s.BUFLEN := (rfl)

theorem fresh_withFlags : (s.withFlags ill seq).fresh = s.fresh.withFlags ill seq := rfl

theorem wiped_withFlags : (s.withFlags ill seq).wiped = s.wiped.withFlags ill seq := rfl

theorem absorb_withFlags (b : Byte) :
    absorb b (s.withFlags ill seq) = (absorb b s).withFlags ill seq := by
  unfold absorb
  simp only [State.withFlags_BUFLEN]
  split <;> rfl

theorem paddedBytes_withFlags : (s.withFlags ill seq).paddedBytes = s.paddedBytes :=
  paddedBytes_congr rfl fun _ _ => rfl

theorem finalize_withFlags (cfg : Cfg) :
    finalize cfg (s.withFlags ill seq) = (finalize cfg s).withFlags ill seq := by
  rw [finalize_eq_fin, finalize_eq_fin, paddedBytes_withFlags]
  rfl

/-- With the flags replaced, a command answers the same state but for the flags (R244). -/
theorem exec_withFlags (i : Instr) : ∃ t ill' seq', exec i s = .next t ∧
    exec i (s.withFlags ill seq) = .next (t.withFlags ill' seq') := by
  cases i with
  | init => exact ⟨s.fresh, ill, seq, exec_init_eq s, by rw [exec_init_eq, fresh_withFlags]⟩
  | reset => exact ⟨s.fresh, ill, seq, exec_reset_eq s, by rw [exec_reset_eq, fresh_withFlags]⟩
  | wipe => exact ⟨s.wiped, ill, seq, exec_wipe_eq s, by rw [exec_wipe_eq, wiped_withFlags]⟩
  | update b =>
    have hphase := s.withFlags_ACTIVE ill seq
    cases ha : s.ACTIVE with
    | true =>
      refine ⟨absorb b s, ill, seq, exec_update_of_active ha b, ?_⟩
      rw [exec_update_of_active (hphase.trans ha), absorb_withFlags]
    | false =>
      exact ⟨s.raise .sequence, ill, true, exec_update_of_idle ha b,
        exec_update_of_idle (hphase.trans ha) b⟩
  | final =>
    have hphase := s.withFlags_ACTIVE ill seq
    cases ha : s.ACTIVE with
    | true =>
      refine ⟨finalize Config.cfg s, ill, seq, exec_final_of_active ha, ?_⟩
      rw [exec_final_of_active (hphase.trans ha), finalize_withFlags]
    | false =>
      exact ⟨s.raise .sequence, ill, true, exec_final_of_idle ha,
        exec_final_of_idle (hphase.trans ha)⟩

end WithFlags

/-- Settles O23: the second run's state is the first's with other flags. -/
theorem errorFlagsChangeNoCommand : Obligations.ErrorFlagsChangeNoCommand := by
  intro i s ill seq
  obtain ⟨t, ill', seq', hs, hflags⟩ := exec_withFlags s ill seq i
  exact ⟨t, t.withFlags ill' seq', hs, hflags, rfl⟩

end Sys2Proof.Machine
end
